-- ==== Sys2Proof/Word.lean ====
section
/-! DEFINITION. The words of the machine: bytes, 16-bit addresses and the cycle counter
(spec/00_scope.md R8, spec/10_state.md R70). -/

namespace Sys2Proof

/-- A byte: A, X, Y, SP, a memory byte, an opcode, an 8-bit operand (R8). -/
abbrev Byte := BitVec 8

/-- A 16-bit address: PC, effective addresses, vectors (R8). -/
abbrev Addr := BitVec 16

/-- The running cycle counter, 64 bits, wrapping (R70). -/
abbrev CycleCount := BitVec 64

end Sys2Proof
end

