-- ==== Sys2Proof/Syntax.lean ====
section
/-! DEFINITION. The instructions as syntax: one constructor of `Instr` per row of spec/opcode_table.json
(spec/30_encoding.md R154), the 13 addressing modes (R151) and the operands they carry. -/

namespace Sys2Proof

/-- The 77 mnemonics: the 56 documented ones, then the 21 names of undocumented operations (R156). -/
inductive Mnemonic where
  | ADC | AND | ASL | BCC | BCS | BEQ | BIT | BMI | BNE | BPL | BRK | BVC | BVS | CLC
  | CLD | CLI | CLV | CMP | CPX | CPY | DEC | DEX | DEY | EOR | INC | INX | INY | JMP
  | JSR | LDA | LDX | LDY | LSR | NOP | ORA | PHA | PHP | PLA | PLP | ROL | ROR | RTI
  | RTS | SBC | SEC | SED | SEI | STA | STX | STY | TAX | TAY | TSX | TXA | TXS | TYA
  | ALR | ANC | ANE | ARR | DCP | ISC | JAM | LAS | LAX | LXA | RLA | RRA | SAX | SBX
  | SHA | SHX | SHY | SLO | SRE | TAS | USBC
  deriving DecidableEq, Repr

/-- The 13 addressing modes (R151). -/
inductive Mode where
  | implied | accumulator | immediate | zeropage | zeropageX | zeropageY | relative
  | absolute | absoluteX | absoluteY | indirect | indirectX | indirectY
  deriving DecidableEq, Repr

/-- The bytes an instruction of this mode has, its opcode among them (R151). -/
def Mode.length : Mode → Nat
  | .implied | .accumulator => 1
  | .immediate | .zeropage | .zeropageX | .zeropageY | .relative | .indirectX | .indirectY => 2
  | .absolute | .absoluteX | .absoluteY | .indirect => 3

/-- The operands whose address is a base plus an index over 16 bits, the ones that can cross a page
and have an unindexed base (spec/40_execution.md R213, R214, R217). -/
inductive Indexed where
  | absoluteX (addr : Addr)
  | absoluteY (addr : Addr)
  | indirectY (zp : Byte)
  deriving DecidableEq, Repr

/-- The operands that name a byte of memory (spec/40_execution.md R208 to R210, R212 to R214, R216, R217). -/
inductive MemOperand where
  | zeropage (zp : Byte)
  | zeropageX (zp : Byte)
  | zeropageY (zp : Byte)
  | absolute (addr : Addr)
  | indirectX (zp : Byte)
  | indexed (ix : Indexed)
  deriving DecidableEq, Repr

/-- An addressing mode together with its operand field (R151, R152). `rel8` is a signed number. -/
inductive Operand where
  | implied
  | accumulator
  | immediate (v : Byte)
  | relative (disp : Int)
  | indirect (ptr : Addr)
  | memory (m : MemOperand)
  deriving DecidableEq, Repr

/-- The mode of an operand (R151). -/
def Operand.mode : Operand → Mode
  | .implied => .implied
  | .accumulator => .accumulator
  | .immediate _ => .immediate
  | .relative _ => .relative
  | .indirect _ => .indirect
  | .memory (.zeropage _) => .zeropage
  | .memory (.zeropageX _) => .zeropageX
  | .memory (.zeropageY _) => .zeropageY
  | .memory (.absolute _) => .absolute
  | .memory (.indirectX _) => .indirectX
  | .memory (.indexed (.absoluteX _)) => .absoluteX
  | .memory (.indexed (.absoluteY _)) => .absoluteY
  | .memory (.indexed (.indirectY _)) => .indirectY

/-- An instruction: one constructor per opcode (R154), first those with an operand field, then the
one-byte ones, each in the order of the opcode byte. A name ends
in its mode (`Acc`, `Imm`, `Zp`, `ZpX`, `ZpY`, `Abs`, `AbsX`, `AbsY`, `Ind`, `IndX`, `IndY`); where
several opcodes spell one mnemonic in one mode (R158), it ends in the opcode byte. -/
inductive Instr where
  /-- 0x01 ORA indirect_x, R303. -/
  | oraIndX (zp : Byte)
  /-- 0x03 SLO indirect_x, R550. -/
  | sloIndX (zp : Byte)
  /-- 0x04 NOP zeropage, R572. -/
  | nopZp04 (zp : Byte)
  /-- 0x05 ORA zeropage, R303. -/
  | oraZp (zp : Byte)
  /-- 0x06 ASL zeropage, R350. -/
  | aslZp (zp : Byte)
  /-- 0x07 SLO zeropage, R550. -/
  | sloZp (zp : Byte)
  /-- 0x09 ORA immediate, R303. -/
  | oraImm (v : Byte)
  /-- 0x0B ANC immediate, R558. -/
  | ancImm0B (v : Byte)
  /-- 0x0C NOP absolute, R572. -/
  | nopAbs (addr : Addr)
  /-- 0x0D ORA absolute, R303. -/
  | oraAbs (addr : Addr)
  /-- 0x0E ASL absolute, R350. -/
  | aslAbs (addr : Addr)
  /-- 0x0F SLO absolute, R550. -/
  | sloAbs (addr : Addr)
  /-- 0x10 BPL relative, R401. -/
  | bpl (disp : Int)
  /-- 0x11 ORA indirect_y, R303. -/
  | oraIndY (zp : Byte)
  /-- 0x13 SLO indirect_y, R550. -/
  | sloIndY (zp : Byte)
  /-- 0x14 NOP zeropage_x, R572. -/
  | nopZpX14 (zp : Byte)
  /-- 0x15 ORA zeropage_x, R303. -/
  | oraZpX (zp : Byte)
  /-- 0x16 ASL zeropage_x, R350. -/
  | aslZpX (zp : Byte)
  /-- 0x17 SLO zeropage_x, R550. -/
  | sloZpX (zp : Byte)
  /-- 0x19 ORA absolute_y, R303. -/
  | oraAbsY (addr : Addr)
  /-- 0x1B SLO absolute_y, R550. -/
  | sloAbsY (addr : Addr)
  /-- 0x1C NOP absolute_x, R572. -/
  | nopAbsX1C (addr : Addr)
  /-- 0x1D ORA absolute_x, R303. -/
  | oraAbsX (addr : Addr)
  /-- 0x1E ASL absolute_x, R350. -/
  | aslAbsX (addr : Addr)
  /-- 0x1F SLO absolute_x, R550. -/
  | sloAbsX (addr : Addr)
  /-- 0x20 JSR absolute, R411. -/
  | jsr (addr : Addr)
  /-- 0x21 AND indirect_x, R302. -/
  | andIndX (zp : Byte)
  /-- 0x23 RLA indirect_x, R551. -/
  | rlaIndX (zp : Byte)
  /-- 0x24 BIT zeropage, R305. -/
  | bitZp (zp : Byte)
  /-- 0x25 AND zeropage, R302. -/
  | andZp (zp : Byte)
  /-- 0x26 ROL zeropage, R352. -/
  | rolZp (zp : Byte)
  /-- 0x27 RLA zeropage, R551. -/
  | rlaZp (zp : Byte)
  /-- 0x29 AND immediate, R302. -/
  | andImm (v : Byte)
  /-- 0x2B ANC immediate, R558. -/
  | ancImm2B (v : Byte)
  /-- 0x2C BIT absolute, R305. -/
  | bitAbs (addr : Addr)
  /-- 0x2D AND absolute, R302. -/
  | andAbs (addr : Addr)
  /-- 0x2E ROL absolute, R352. -/
  | rolAbs (addr : Addr)
  /-- 0x2F RLA absolute, R551. -/
  | rlaAbs (addr : Addr)
  /-- 0x30 BMI relative, R402. -/
  | bmi (disp : Int)
  /-- 0x31 AND indirect_y, R302. -/
  | andIndY (zp : Byte)
  /-- 0x33 RLA indirect_y, R551. -/
  | rlaIndY (zp : Byte)
  /-- 0x34 NOP zeropage_x, R572. -/
  | nopZpX34 (zp : Byte)
  /-- 0x35 AND zeropage_x, R302. -/
  | andZpX (zp : Byte)
  /-- 0x36 ROL zeropage_x, R352. -/
  | rolZpX (zp : Byte)
  /-- 0x37 RLA zeropage_x, R551. -/
  | rlaZpX (zp : Byte)
  /-- 0x39 AND absolute_y, R302. -/
  | andAbsY (addr : Addr)
  /-- 0x3B RLA absolute_y, R551. -/
  | rlaAbsY (addr : Addr)
  /-- 0x3C NOP absolute_x, R572. -/
  | nopAbsX3C (addr : Addr)
  /-- 0x3D AND absolute_x, R302. -/
  | andAbsX (addr : Addr)
  /-- 0x3E ROL absolute_x, R352. -/
  | rolAbsX (addr : Addr)
  /-- 0x3F RLA absolute_x, R551. -/
  | rlaAbsX (addr : Addr)
  /-- 0x41 EOR indirect_x, R304. -/
  | eorIndX (zp : Byte)
  /-- 0x43 SRE indirect_x, R552. -/
  | sreIndX (zp : Byte)
  /-- 0x44 NOP zeropage, R572. -/
  | nopZp44 (zp : Byte)
  /-- 0x45 EOR zeropage, R304. -/
  | eorZp (zp : Byte)
  /-- 0x46 LSR zeropage, R351. -/
  | lsrZp (zp : Byte)
  /-- 0x47 SRE zeropage, R552. -/
  | sreZp (zp : Byte)
  /-- 0x49 EOR immediate, R304. -/
  | eorImm (v : Byte)
  /-- 0x4B ALR immediate, R559. -/
  | alrImm (v : Byte)
  /-- 0x4C JMP absolute, R409. -/
  | jmpAbs (addr : Addr)
  /-- 0x4D EOR absolute, R304. -/
  | eorAbs (addr : Addr)
  /-- 0x4E LSR absolute, R351. -/
  | lsrAbs (addr : Addr)
  /-- 0x4F SRE absolute, R552. -/
  | sreAbs (addr : Addr)
  /-- 0x50 BVC relative, R403. -/
  | bvc (disp : Int)
  /-- 0x51 EOR indirect_y, R304. -/
  | eorIndY (zp : Byte)
  /-- 0x53 SRE indirect_y, R552. -/
  | sreIndY (zp : Byte)
  /-- 0x54 NOP zeropage_x, R572. -/
  | nopZpX54 (zp : Byte)
  /-- 0x55 EOR zeropage_x, R304. -/
  | eorZpX (zp : Byte)
  /-- 0x56 LSR zeropage_x, R351. -/
  | lsrZpX (zp : Byte)
  /-- 0x57 SRE zeropage_x, R552. -/
  | sreZpX (zp : Byte)
  /-- 0x59 EOR absolute_y, R304. -/
  | eorAbsY (addr : Addr)
  /-- 0x5B SRE absolute_y, R552. -/
  | sreAbsY (addr : Addr)
  /-- 0x5C NOP absolute_x, R572. -/
  | nopAbsX5C (addr : Addr)
  /-- 0x5D EOR absolute_x, R304. -/
  | eorAbsX (addr : Addr)
  /-- 0x5E LSR absolute_x, R351. -/
  | lsrAbsX (addr : Addr)
  /-- 0x5F SRE absolute_x, R552. -/
  | sreAbsX (addr : Addr)
  /-- 0x61 ADC indirect_x, R300. -/
  | adcIndX (zp : Byte)
  /-- 0x63 RRA indirect_x, R553. -/
  | rraIndX (zp : Byte)
  /-- 0x64 NOP zeropage, R572. -/
  | nopZp64 (zp : Byte)
  /-- 0x65 ADC zeropage, R300. -/
  | adcZp (zp : Byte)
  /-- 0x66 ROR zeropage, R353. -/
  | rorZp (zp : Byte)
  /-- 0x67 RRA zeropage, R553. -/
  | rraZp (zp : Byte)
  /-- 0x69 ADC immediate, R300. -/
  | adcImm (v : Byte)
  /-- 0x6B ARR immediate, R560. -/
  | arrImm (v : Byte)
  /-- 0x6C JMP indirect, R410. -/
  | jmpInd (ptr : Addr)
  /-- 0x6D ADC absolute, R300. -/
  | adcAbs (addr : Addr)
  /-- 0x6E ROR absolute, R353. -/
  | rorAbs (addr : Addr)
  /-- 0x6F RRA absolute, R553. -/
  | rraAbs (addr : Addr)
  /-- 0x70 BVS relative, R404. -/
  | bvs (disp : Int)
  /-- 0x71 ADC indirect_y, R300. -/
  | adcIndY (zp : Byte)
  /-- 0x73 RRA indirect_y, R553. -/
  | rraIndY (zp : Byte)
  /-- 0x74 NOP zeropage_x, R572. -/
  | nopZpX74 (zp : Byte)
  /-- 0x75 ADC zeropage_x, R300. -/
  | adcZpX (zp : Byte)
  /-- 0x76 ROR zeropage_x, R353. -/
  | rorZpX (zp : Byte)
  /-- 0x77 RRA zeropage_x, R553. -/
  | rraZpX (zp : Byte)
  /-- 0x79 ADC absolute_y, R300. -/
  | adcAbsY (addr : Addr)
  /-- 0x7B RRA absolute_y, R553. -/
  | rraAbsY (addr : Addr)
  /-- 0x7C NOP absolute_x, R572. -/
  | nopAbsX7C (addr : Addr)
  /-- 0x7D ADC absolute_x, R300. -/
  | adcAbsX (addr : Addr)
  /-- 0x7E ROR absolute_x, R353. -/
  | rorAbsX (addr : Addr)
  /-- 0x7F RRA absolute_x, R553. -/
  | rraAbsX (addr : Addr)
  /-- 0x80 NOP immediate, R572. -/
  | nopImm80 (v : Byte)
  /-- 0x81 STA indirect_x, R253. -/
  | staIndX (zp : Byte)
  /-- 0x82 NOP immediate, R572. -/
  | nopImm82 (v : Byte)
  /-- 0x83 SAX indirect_x, R554. -/
  | saxIndX (zp : Byte)
  /-- 0x84 STY zeropage, R255. -/
  | styZp (zp : Byte)
  /-- 0x85 STA zeropage, R253. -/
  | staZp (zp : Byte)
  /-- 0x86 STX zeropage, R254. -/
  | stxZp (zp : Byte)
  /-- 0x87 SAX zeropage, R554. -/
  | saxZp (zp : Byte)
  /-- 0x89 NOP immediate, R572. -/
  | nopImm89 (v : Byte)
  /-- 0x8B ANE immediate, R561. -/
  | aneImm (v : Byte)
  /-- 0x8C STY absolute, R255. -/
  | styAbs (addr : Addr)
  /-- 0x8D STA absolute, R253. -/
  | staAbs (addr : Addr)
  /-- 0x8E STX absolute, R254. -/
  | stxAbs (addr : Addr)
  /-- 0x8F SAX absolute, R554. -/
  | saxAbs (addr : Addr)
  /-- 0x90 BCC relative, R405. -/
  | bcc (disp : Int)
  /-- 0x91 STA indirect_y, R253. -/
  | staIndY (zp : Byte)
  /-- 0x93 SHA indirect_y, R567. -/
  | shaIndY (zp : Byte)
  /-- 0x94 STY zeropage_x, R255. -/
  | styZpX (zp : Byte)
  /-- 0x95 STA zeropage_x, R253. -/
  | staZpX (zp : Byte)
  /-- 0x96 STX zeropage_y, R254. -/
  | stxZpY (zp : Byte)
  /-- 0x97 SAX zeropage_y, R554. -/
  | saxZpY (zp : Byte)
  /-- 0x99 STA absolute_y, R253. -/
  | staAbsY (addr : Addr)
  /-- 0x9B TAS absolute_y, R570. -/
  | tasAbsY (addr : Addr)
  /-- 0x9C SHY absolute_x, R569. -/
  | shyAbsX (addr : Addr)
  /-- 0x9D STA absolute_x, R253. -/
  | staAbsX (addr : Addr)
  /-- 0x9E SHX absolute_y, R568. -/
  | shxAbsY (addr : Addr)
  /-- 0x9F SHA absolute_y, R567. -/
  | shaAbsY (addr : Addr)
  /-- 0xA0 LDY immediate, R252. -/
  | ldyImm (v : Byte)
  /-- 0xA1 LDA indirect_x, R250. -/
  | ldaIndX (zp : Byte)
  /-- 0xA2 LDX immediate, R251. -/
  | ldxImm (v : Byte)
  /-- 0xA3 LAX indirect_x, R555. -/
  | laxIndX (zp : Byte)
  /-- 0xA4 LDY zeropage, R252. -/
  | ldyZp (zp : Byte)
  /-- 0xA5 LDA zeropage, R250. -/
  | ldaZp (zp : Byte)
  /-- 0xA6 LDX zeropage, R251. -/
  | ldxZp (zp : Byte)
  /-- 0xA7 LAX zeropage, R555. -/
  | laxZp (zp : Byte)
  /-- 0xA9 LDA immediate, R250. -/
  | ldaImm (v : Byte)
  /-- 0xAB LXA immediate, R562. -/
  | lxaImm (v : Byte)
  /-- 0xAC LDY absolute, R252. -/
  | ldyAbs (addr : Addr)
  /-- 0xAD LDA absolute, R250. -/
  | ldaAbs (addr : Addr)
  /-- 0xAE LDX absolute, R251. -/
  | ldxAbs (addr : Addr)
  /-- 0xAF LAX absolute, R555. -/
  | laxAbs (addr : Addr)
  /-- 0xB0 BCS relative, R406. -/
  | bcs (disp : Int)
  /-- 0xB1 LDA indirect_y, R250. -/
  | ldaIndY (zp : Byte)
  /-- 0xB3 LAX indirect_y, R555. -/
  | laxIndY (zp : Byte)
  /-- 0xB4 LDY zeropage_x, R252. -/
  | ldyZpX (zp : Byte)
  /-- 0xB5 LDA zeropage_x, R250. -/
  | ldaZpX (zp : Byte)
  /-- 0xB6 LDX zeropage_y, R251. -/
  | ldxZpY (zp : Byte)
  /-- 0xB7 LAX zeropage_y, R555. -/
  | laxZpY (zp : Byte)
  /-- 0xB9 LDA absolute_y, R250. -/
  | ldaAbsY (addr : Addr)
  /-- 0xBB LAS absolute_y, R565. -/
  | lasAbsY (addr : Addr)
  /-- 0xBC LDY absolute_x, R252. -/
  | ldyAbsX (addr : Addr)
  /-- 0xBD LDA absolute_x, R250. -/
  | ldaAbsX (addr : Addr)
  /-- 0xBE LDX absolute_y, R251. -/
  | ldxAbsY (addr : Addr)
  /-- 0xBF LAX absolute_y, R555. -/
  | laxAbsY (addr : Addr)
  /-- 0xC0 CPY immediate, R308. -/
  | cpyImm (v : Byte)
  /-- 0xC1 CMP indirect_x, R306. -/
  | cmpIndX (zp : Byte)
  /-- 0xC2 NOP immediate, R572. -/
  | nopImmC2 (v : Byte)
  /-- 0xC3 DCP indirect_x, R556. -/
  | dcpIndX (zp : Byte)
  /-- 0xC4 CPY zeropage, R308. -/
  | cpyZp (zp : Byte)
  /-- 0xC5 CMP zeropage, R306. -/
  | cmpZp (zp : Byte)
  /-- 0xC6 DEC zeropage, R310. -/
  | decZp (zp : Byte)
  /-- 0xC7 DCP zeropage, R556. -/
  | dcpZp (zp : Byte)
  /-- 0xC9 CMP immediate, R306. -/
  | cmpImm (v : Byte)
  /-- 0xCB SBX immediate, R563. -/
  | sbxImm (v : Byte)
  /-- 0xCC CPY absolute, R308. -/
  | cpyAbs (addr : Addr)
  /-- 0xCD CMP absolute, R306. -/
  | cmpAbs (addr : Addr)
  /-- 0xCE DEC absolute, R310. -/
  | decAbs (addr : Addr)
  /-- 0xCF DCP absolute, R556. -/
  | dcpAbs (addr : Addr)
  /-- 0xD0 BNE relative, R407. -/
  | bne (disp : Int)
  /-- 0xD1 CMP indirect_y, R306. -/
  | cmpIndY (zp : Byte)
  /-- 0xD3 DCP indirect_y, R556. -/
  | dcpIndY (zp : Byte)
  /-- 0xD4 NOP zeropage_x, R572. -/
  | nopZpXD4 (zp : Byte)
  /-- 0xD5 CMP zeropage_x, R306. -/
  | cmpZpX (zp : Byte)
  /-- 0xD6 DEC zeropage_x, R310. -/
  | decZpX (zp : Byte)
  /-- 0xD7 DCP zeropage_x, R556. -/
  | dcpZpX (zp : Byte)
  /-- 0xD9 CMP absolute_y, R306. -/
  | cmpAbsY (addr : Addr)
  /-- 0xDB DCP absolute_y, R556. -/
  | dcpAbsY (addr : Addr)
  /-- 0xDC NOP absolute_x, R572. -/
  | nopAbsXDC (addr : Addr)
  /-- 0xDD CMP absolute_x, R306. -/
  | cmpAbsX (addr : Addr)
  /-- 0xDE DEC absolute_x, R310. -/
  | decAbsX (addr : Addr)
  /-- 0xDF DCP absolute_x, R556. -/
  | dcpAbsX (addr : Addr)
  /-- 0xE0 CPX immediate, R307. -/
  | cpxImm (v : Byte)
  /-- 0xE1 SBC indirect_x, R301. -/
  | sbcIndX (zp : Byte)
  /-- 0xE2 NOP immediate, R572. -/
  | nopImmE2 (v : Byte)
  /-- 0xE3 ISC indirect_x, R557. -/
  | iscIndX (zp : Byte)
  /-- 0xE4 CPX zeropage, R307. -/
  | cpxZp (zp : Byte)
  /-- 0xE5 SBC zeropage, R301. -/
  | sbcZp (zp : Byte)
  /-- 0xE6 INC zeropage, R309. -/
  | incZp (zp : Byte)
  /-- 0xE7 ISC zeropage, R557. -/
  | iscZp (zp : Byte)
  /-- 0xE9 SBC immediate, R301. -/
  | sbcImm (v : Byte)
  /-- 0xEB USBC immediate, R564. -/
  | usbcImm (v : Byte)
  /-- 0xEC CPX absolute, R307. -/
  | cpxAbs (addr : Addr)
  /-- 0xED SBC absolute, R301. -/
  | sbcAbs (addr : Addr)
  /-- 0xEE INC absolute, R309. -/
  | incAbs (addr : Addr)
  /-- 0xEF ISC absolute, R557. -/
  | iscAbs (addr : Addr)
  /-- 0xF0 BEQ relative, R408. -/
  | beq (disp : Int)
  /-- 0xF1 SBC indirect_y, R301. -/
  | sbcIndY (zp : Byte)
  /-- 0xF3 ISC indirect_y, R557. -/
  | iscIndY (zp : Byte)
  /-- 0xF4 NOP zeropage_x, R572. -/
  | nopZpXF4 (zp : Byte)
  /-- 0xF5 SBC zeropage_x, R301. -/
  | sbcZpX (zp : Byte)
  /-- 0xF6 INC zeropage_x, R309. -/
  | incZpX (zp : Byte)
  /-- 0xF7 ISC zeropage_x, R557. -/
  | iscZpX (zp : Byte)
  /-- 0xF9 SBC absolute_y, R301. -/
  | sbcAbsY (addr : Addr)
  /-- 0xFB ISC absolute_y, R557. -/
  | iscAbsY (addr : Addr)
  /-- 0xFC NOP absolute_x, R572. -/
  | nopAbsXFC (addr : Addr)
  /-- 0xFD SBC absolute_x, R301. -/
  | sbcAbsX (addr : Addr)
  /-- 0xFE INC absolute_x, R309. -/
  | incAbsX (addr : Addr)
  /-- 0xFF ISC absolute_x, R557. -/
  | iscAbsX (addr : Addr)
  /-- 0x00 BRK implied, R462. -/
  | brk
  /-- 0x02 JAM implied, R573. -/
  | jam02
  /-- 0x08 PHP implied, R451. -/
  | php
  /-- 0x0A ASL accumulator, R350. -/
  | aslAcc
  /-- 0x12 JAM implied, R573. -/
  | jam12
  /-- 0x18 CLC implied, R454. -/
  | clc
  /-- 0x1A NOP implied, R571. -/
  | nop1A
  /-- 0x22 JAM implied, R573. -/
  | jam22
  /-- 0x28 PLP implied, R453. -/
  | plp
  /-- 0x2A ROL accumulator, R352. -/
  | rolAcc
  /-- 0x32 JAM implied, R573. -/
  | jam32
  /-- 0x38 SEC implied, R455. -/
  | sec
  /-- 0x3A NOP implied, R571. -/
  | nop3A
  /-- 0x40 RTI implied, R463. -/
  | rti
  /-- 0x42 JAM implied, R573. -/
  | jam42
  /-- 0x48 PHA implied, R450. -/
  | pha
  /-- 0x4A LSR accumulator, R351. -/
  | lsrAcc
  /-- 0x52 JAM implied, R573. -/
  | jam52
  /-- 0x58 CLI implied, R456. -/
  | cli
  /-- 0x5A NOP implied, R571. -/
  | nop5A
  /-- 0x60 RTS implied, R412. -/
  | rts
  /-- 0x62 JAM implied, R573. -/
  | jam62
  /-- 0x68 PLA implied, R452. -/
  | pla
  /-- 0x6A ROR accumulator, R353. -/
  | rorAcc
  /-- 0x72 JAM implied, R573. -/
  | jam72
  /-- 0x78 SEI implied, R457. -/
  | sei
  /-- 0x7A NOP implied, R571. -/
  | nop7A
  /-- 0x88 DEY implied, R314. -/
  | dey
  /-- 0x8A TXA implied, R258. -/
  | txa
  /-- 0x92 JAM implied, R573. -/
  | jam92
  /-- 0x98 TYA implied, R259. -/
  | tya
  /-- 0x9A TXS implied, R261. -/
  | txs
  /-- 0xA8 TAY implied, R257. -/
  | tay
  /-- 0xAA TAX implied, R256. -/
  | tax
  /-- 0xB2 JAM implied, R573. -/
  | jamB2
  /-- 0xB8 CLV implied, R460. -/
  | clv
  /-- 0xBA TSX implied, R260. -/
  | tsx
  /-- 0xC8 INY implied, R312. -/
  | iny
  /-- 0xCA DEX implied, R313. -/
  | dex
  /-- 0xD2 JAM implied, R573. -/
  | jamD2
  /-- 0xD8 CLD implied, R458. -/
  | cld
  /-- 0xDA NOP implied, R571. -/
  | nopDA
  /-- 0xE8 INX implied, R311. -/
  | inx
  /-- 0xEA NOP implied, R461. -/
  | nop
  /-- 0xF2 JAM implied, R573. -/
  | jamF2
  /-- 0xF8 SED implied, R459. -/
  | sed
  /-- 0xFA NOP implied, R571. -/
  | nopFA
  deriving DecidableEq, Repr

/-- What each constructor spells: its mnemonic and its operand (R154). -/
def Instr.view : Instr → Mnemonic × Operand
  | .oraIndX zp => (.ORA, .memory (.indirectX zp))
  | .sloIndX zp => (.SLO, .memory (.indirectX zp))
  | .nopZp04 zp => (.NOP, .memory (.zeropage zp))
  | .oraZp zp => (.ORA, .memory (.zeropage zp))
  | .aslZp zp => (.ASL, .memory (.zeropage zp))
  | .sloZp zp => (.SLO, .memory (.zeropage zp))
  | .oraImm v => (.ORA, .immediate v)
  | .ancImm0B v => (.ANC, .immediate v)
  | .nopAbs addr => (.NOP, .memory (.absolute addr))
  | .oraAbs addr => (.ORA, .memory (.absolute addr))
  | .aslAbs addr => (.ASL, .memory (.absolute addr))
  | .sloAbs addr => (.SLO, .memory (.absolute addr))
  | .bpl disp => (.BPL, .relative disp)
  | .oraIndY zp => (.ORA, .memory (.indexed (.indirectY zp)))
  | .sloIndY zp => (.SLO, .memory (.indexed (.indirectY zp)))
  | .nopZpX14 zp => (.NOP, .memory (.zeropageX zp))
  | .oraZpX zp => (.ORA, .memory (.zeropageX zp))
  | .aslZpX zp => (.ASL, .memory (.zeropageX zp))
  | .sloZpX zp => (.SLO, .memory (.zeropageX zp))
  | .oraAbsY addr => (.ORA, .memory (.indexed (.absoluteY addr)))
  | .sloAbsY addr => (.SLO, .memory (.indexed (.absoluteY addr)))
  | .nopAbsX1C addr => (.NOP, .memory (.indexed (.absoluteX addr)))
  | .oraAbsX addr => (.ORA, .memory (.indexed (.absoluteX addr)))
  | .aslAbsX addr => (.ASL, .memory (.indexed (.absoluteX addr)))
  | .sloAbsX addr => (.SLO, .memory (.indexed (.absoluteX addr)))
  | .jsr addr => (.JSR, .memory (.absolute addr))
  | .andIndX zp => (.AND, .memory (.indirectX zp))
  | .rlaIndX zp => (.RLA, .memory (.indirectX zp))
  | .bitZp zp => (.BIT, .memory (.zeropage zp))
  | .andZp zp => (.AND, .memory (.zeropage zp))
  | .rolZp zp => (.ROL, .memory (.zeropage zp))
  | .rlaZp zp => (.RLA, .memory (.zeropage zp))
  | .andImm v => (.AND, .immediate v)
  | .ancImm2B v => (.ANC, .immediate v)
  | .bitAbs addr => (.BIT, .memory (.absolute addr))
  | .andAbs addr => (.AND, .memory (.absolute addr))
  | .rolAbs addr => (.ROL, .memory (.absolute addr))
  | .rlaAbs addr => (.RLA, .memory (.absolute addr))
  | .bmi disp => (.BMI, .relative disp)
  | .andIndY zp => (.AND, .memory (.indexed (.indirectY zp)))
  | .rlaIndY zp => (.RLA, .memory (.indexed (.indirectY zp)))
  | .nopZpX34 zp => (.NOP, .memory (.zeropageX zp))
  | .andZpX zp => (.AND, .memory (.zeropageX zp))
  | .rolZpX zp => (.ROL, .memory (.zeropageX zp))
  | .rlaZpX zp => (.RLA, .memory (.zeropageX zp))
  | .andAbsY addr => (.AND, .memory (.indexed (.absoluteY addr)))
  | .rlaAbsY addr => (.RLA, .memory (.indexed (.absoluteY addr)))
  | .nopAbsX3C addr => (.NOP, .memory (.indexed (.absoluteX addr)))
  | .andAbsX addr => (.AND, .memory (.indexed (.absoluteX addr)))
  | .rolAbsX addr => (.ROL, .memory (.indexed (.absoluteX addr)))
  | .rlaAbsX addr => (.RLA, .memory (.indexed (.absoluteX addr)))
  | .eorIndX zp => (.EOR, .memory (.indirectX zp))
  | .sreIndX zp => (.SRE, .memory (.indirectX zp))
  | .nopZp44 zp => (.NOP, .memory (.zeropage zp))
  | .eorZp zp => (.EOR, .memory (.zeropage zp))
  | .lsrZp zp => (.LSR, .memory (.zeropage zp))
  | .sreZp zp => (.SRE, .memory (.zeropage zp))
  | .eorImm v => (.EOR, .immediate v)
  | .alrImm v => (.ALR, .immediate v)
  | .jmpAbs addr => (.JMP, .memory (.absolute addr))
  | .eorAbs addr => (.EOR, .memory (.absolute addr))
  | .lsrAbs addr => (.LSR, .memory (.absolute addr))
  | .sreAbs addr => (.SRE, .memory (.absolute addr))
  | .bvc disp => (.BVC, .relative disp)
  | .eorIndY zp => (.EOR, .memory (.indexed (.indirectY zp)))
  | .sreIndY zp => (.SRE, .memory (.indexed (.indirectY zp)))
  | .nopZpX54 zp => (.NOP, .memory (.zeropageX zp))
  | .eorZpX zp => (.EOR, .memory (.zeropageX zp))
  | .lsrZpX zp => (.LSR, .memory (.zeropageX zp))
  | .sreZpX zp => (.SRE, .memory (.zeropageX zp))
  | .eorAbsY addr => (.EOR, .memory (.indexed (.absoluteY addr)))
  | .sreAbsY addr => (.SRE, .memory (.indexed (.absoluteY addr)))
  | .nopAbsX5C addr => (.NOP, .memory (.indexed (.absoluteX addr)))
  | .eorAbsX addr => (.EOR, .memory (.indexed (.absoluteX addr)))
  | .lsrAbsX addr => (.LSR, .memory (.indexed (.absoluteX addr)))
  | .sreAbsX addr => (.SRE, .memory (.indexed (.absoluteX addr)))
  | .adcIndX zp => (.ADC, .memory (.indirectX zp))
  | .rraIndX zp => (.RRA, .memory (.indirectX zp))
  | .nopZp64 zp => (.NOP, .memory (.zeropage zp))
  | .adcZp zp => (.ADC, .memory (.zeropage zp))
  | .rorZp zp => (.ROR, .memory (.zeropage zp))
  | .rraZp zp => (.RRA, .memory (.zeropage zp))
  | .adcImm v => (.ADC, .immediate v)
  | .arrImm v => (.ARR, .immediate v)
  | .jmpInd ptr => (.JMP, .indirect ptr)
  | .adcAbs addr => (.ADC, .memory (.absolute addr))
  | .rorAbs addr => (.ROR, .memory (.absolute addr))
  | .rraAbs addr => (.RRA, .memory (.absolute addr))
  | .bvs disp => (.BVS, .relative disp)
  | .adcIndY zp => (.ADC, .memory (.indexed (.indirectY zp)))
  | .rraIndY zp => (.RRA, .memory (.indexed (.indirectY zp)))
  | .nopZpX74 zp => (.NOP, .memory (.zeropageX zp))
  | .adcZpX zp => (.ADC, .memory (.zeropageX zp))
  | .rorZpX zp => (.ROR, .memory (.zeropageX zp))
  | .rraZpX zp => (.RRA, .memory (.zeropageX zp))
  | .adcAbsY addr => (.ADC, .memory (.indexed (.absoluteY addr)))
  | .rraAbsY addr => (.RRA, .memory (.indexed (.absoluteY addr)))
  | .nopAbsX7C addr => (.NOP, .memory (.indexed (.absoluteX addr)))
  | .adcAbsX addr => (.ADC, .memory (.indexed (.absoluteX addr)))
  | .rorAbsX addr => (.ROR, .memory (.indexed (.absoluteX addr)))
  | .rraAbsX addr => (.RRA, .memory (.indexed (.absoluteX addr)))
  | .nopImm80 v => (.NOP, .immediate v)
  | .staIndX zp => (.STA, .memory (.indirectX zp))
  | .nopImm82 v => (.NOP, .immediate v)
  | .saxIndX zp => (.SAX, .memory (.indirectX zp))
  | .styZp zp => (.STY, .memory (.zeropage zp))
  | .staZp zp => (.STA, .memory (.zeropage zp))
  | .stxZp zp => (.STX, .memory (.zeropage zp))
  | .saxZp zp => (.SAX, .memory (.zeropage zp))
  | .nopImm89 v => (.NOP, .immediate v)
  | .aneImm v => (.ANE, .immediate v)
  | .styAbs addr => (.STY, .memory (.absolute addr))
  | .staAbs addr => (.STA, .memory (.absolute addr))
  | .stxAbs addr => (.STX, .memory (.absolute addr))
  | .saxAbs addr => (.SAX, .memory (.absolute addr))
  | .bcc disp => (.BCC, .relative disp)
  | .staIndY zp => (.STA, .memory (.indexed (.indirectY zp)))
  | .shaIndY zp => (.SHA, .memory (.indexed (.indirectY zp)))
  | .styZpX zp => (.STY, .memory (.zeropageX zp))
  | .staZpX zp => (.STA, .memory (.zeropageX zp))
  | .stxZpY zp => (.STX, .memory (.zeropageY zp))
  | .saxZpY zp => (.SAX, .memory (.zeropageY zp))
  | .staAbsY addr => (.STA, .memory (.indexed (.absoluteY addr)))
  | .tasAbsY addr => (.TAS, .memory (.indexed (.absoluteY addr)))
  | .shyAbsX addr => (.SHY, .memory (.indexed (.absoluteX addr)))
  | .staAbsX addr => (.STA, .memory (.indexed (.absoluteX addr)))
  | .shxAbsY addr => (.SHX, .memory (.indexed (.absoluteY addr)))
  | .shaAbsY addr => (.SHA, .memory (.indexed (.absoluteY addr)))
  | .ldyImm v => (.LDY, .immediate v)
  | .ldaIndX zp => (.LDA, .memory (.indirectX zp))
  | .ldxImm v => (.LDX, .immediate v)
  | .laxIndX zp => (.LAX, .memory (.indirectX zp))
  | .ldyZp zp => (.LDY, .memory (.zeropage zp))
  | .ldaZp zp => (.LDA, .memory (.zeropage zp))
  | .ldxZp zp => (.LDX, .memory (.zeropage zp))
  | .laxZp zp => (.LAX, .memory (.zeropage zp))
  | .ldaImm v => (.LDA, .immediate v)
  | .lxaImm v => (.LXA, .immediate v)
  | .ldyAbs addr => (.LDY, .memory (.absolute addr))
  | .ldaAbs addr => (.LDA, .memory (.absolute addr))
  | .ldxAbs addr => (.LDX, .memory (.absolute addr))
  | .laxAbs addr => (.LAX, .memory (.absolute addr))
  | .bcs disp => (.BCS, .relative disp)
  | .ldaIndY zp => (.LDA, .memory (.indexed (.indirectY zp)))
  | .laxIndY zp => (.LAX, .memory (.indexed (.indirectY zp)))
  | .ldyZpX zp => (.LDY, .memory (.zeropageX zp))
  | .ldaZpX zp => (.LDA, .memory (.zeropageX zp))
  | .ldxZpY zp => (.LDX, .memory (.zeropageY zp))
  | .laxZpY zp => (.LAX, .memory (.zeropageY zp))
  | .ldaAbsY addr => (.LDA, .memory (.indexed (.absoluteY addr)))
  | .lasAbsY addr => (.LAS, .memory (.indexed (.absoluteY addr)))
  | .ldyAbsX addr => (.LDY, .memory (.indexed (.absoluteX addr)))
  | .ldaAbsX addr => (.LDA, .memory (.indexed (.absoluteX addr)))
  | .ldxAbsY addr => (.LDX, .memory (.indexed (.absoluteY addr)))
  | .laxAbsY addr => (.LAX, .memory (.indexed (.absoluteY addr)))
  | .cpyImm v => (.CPY, .immediate v)
  | .cmpIndX zp => (.CMP, .memory (.indirectX zp))
  | .nopImmC2 v => (.NOP, .immediate v)
  | .dcpIndX zp => (.DCP, .memory (.indirectX zp))
  | .cpyZp zp => (.CPY, .memory (.zeropage zp))
  | .cmpZp zp => (.CMP, .memory (.zeropage zp))
  | .decZp zp => (.DEC, .memory (.zeropage zp))
  | .dcpZp zp => (.DCP, .memory (.zeropage zp))
  | .cmpImm v => (.CMP, .immediate v)
  | .sbxImm v => (.SBX, .immediate v)
  | .cpyAbs addr => (.CPY, .memory (.absolute addr))
  | .cmpAbs addr => (.CMP, .memory (.absolute addr))
  | .decAbs addr => (.DEC, .memory (.absolute addr))
  | .dcpAbs addr => (.DCP, .memory (.absolute addr))
  | .bne disp => (.BNE, .relative disp)
  | .cmpIndY zp => (.CMP, .memory (.indexed (.indirectY zp)))
  | .dcpIndY zp => (.DCP, .memory (.indexed (.indirectY zp)))
  | .nopZpXD4 zp => (.NOP, .memory (.zeropageX zp))
  | .cmpZpX zp => (.CMP, .memory (.zeropageX zp))
  | .decZpX zp => (.DEC, .memory (.zeropageX zp))
  | .dcpZpX zp => (.DCP, .memory (.zeropageX zp))
  | .cmpAbsY addr => (.CMP, .memory (.indexed (.absoluteY addr)))
  | .dcpAbsY addr => (.DCP, .memory (.indexed (.absoluteY addr)))
  | .nopAbsXDC addr => (.NOP, .memory (.indexed (.absoluteX addr)))
  | .cmpAbsX addr => (.CMP, .memory (.indexed (.absoluteX addr)))
  | .decAbsX addr => (.DEC, .memory (.indexed (.absoluteX addr)))
  | .dcpAbsX addr => (.DCP, .memory (.indexed (.absoluteX addr)))
  | .cpxImm v => (.CPX, .immediate v)
  | .sbcIndX zp => (.SBC, .memory (.indirectX zp))
  | .nopImmE2 v => (.NOP, .immediate v)
  | .iscIndX zp => (.ISC, .memory (.indirectX zp))
  | .cpxZp zp => (.CPX, .memory (.zeropage zp))
  | .sbcZp zp => (.SBC, .memory (.zeropage zp))
  | .incZp zp => (.INC, .memory (.zeropage zp))
  | .iscZp zp => (.ISC, .memory (.zeropage zp))
  | .sbcImm v => (.SBC, .immediate v)
  | .usbcImm v => (.USBC, .immediate v)
  | .cpxAbs addr => (.CPX, .memory (.absolute addr))
  | .sbcAbs addr => (.SBC, .memory (.absolute addr))
  | .incAbs addr => (.INC, .memory (.absolute addr))
  | .iscAbs addr => (.ISC, .memory (.absolute addr))
  | .beq disp => (.BEQ, .relative disp)
  | .sbcIndY zp => (.SBC, .memory (.indexed (.indirectY zp)))
  | .iscIndY zp => (.ISC, .memory (.indexed (.indirectY zp)))
  | .nopZpXF4 zp => (.NOP, .memory (.zeropageX zp))
  | .sbcZpX zp => (.SBC, .memory (.zeropageX zp))
  | .incZpX zp => (.INC, .memory (.zeropageX zp))
  | .iscZpX zp => (.ISC, .memory (.zeropageX zp))
  | .sbcAbsY addr => (.SBC, .memory (.indexed (.absoluteY addr)))
  | .iscAbsY addr => (.ISC, .memory (.indexed (.absoluteY addr)))
  | .nopAbsXFC addr => (.NOP, .memory (.indexed (.absoluteX addr)))
  | .sbcAbsX addr => (.SBC, .memory (.indexed (.absoluteX addr)))
  | .incAbsX addr => (.INC, .memory (.indexed (.absoluteX addr)))
  | .iscAbsX addr => (.ISC, .memory (.indexed (.absoluteX addr)))
  | .brk => (.BRK, .implied)
  | .jam02 => (.JAM, .implied)
  | .php => (.PHP, .implied)
  | .aslAcc => (.ASL, .accumulator)
  | .jam12 => (.JAM, .implied)
  | .clc => (.CLC, .implied)
  | .nop1A => (.NOP, .implied)
  | .jam22 => (.JAM, .implied)
  | .plp => (.PLP, .implied)
  | .rolAcc => (.ROL, .accumulator)
  | .jam32 => (.JAM, .implied)
  | .sec => (.SEC, .implied)
  | .nop3A => (.NOP, .implied)
  | .rti => (.RTI, .implied)
  | .jam42 => (.JAM, .implied)
  | .pha => (.PHA, .implied)
  | .lsrAcc => (.LSR, .accumulator)
  | .jam52 => (.JAM, .implied)
  | .cli => (.CLI, .implied)
  | .nop5A => (.NOP, .implied)
  | .rts => (.RTS, .implied)
  | .jam62 => (.JAM, .implied)
  | .pla => (.PLA, .implied)
  | .rorAcc => (.ROR, .accumulator)
  | .jam72 => (.JAM, .implied)
  | .sei => (.SEI, .implied)
  | .nop7A => (.NOP, .implied)
  | .dey => (.DEY, .implied)
  | .txa => (.TXA, .implied)
  | .jam92 => (.JAM, .implied)
  | .tya => (.TYA, .implied)
  | .txs => (.TXS, .implied)
  | .tay => (.TAY, .implied)
  | .tax => (.TAX, .implied)
  | .jamB2 => (.JAM, .implied)
  | .clv => (.CLV, .implied)
  | .tsx => (.TSX, .implied)
  | .iny => (.INY, .implied)
  | .dex => (.DEX, .implied)
  | .jamD2 => (.JAM, .implied)
  | .cld => (.CLD, .implied)
  | .nopDA => (.NOP, .implied)
  | .inx => (.INX, .implied)
  | .nop => (.NOP, .implied)
  | .jamF2 => (.JAM, .implied)
  | .sed => (.SED, .implied)
  | .nopFA => (.NOP, .implied)

/-- The mnemonic of an instruction (R154). -/
def Instr.mnemonic (i : Instr) : Mnemonic := i.view.1

/-- The operand of an instruction (R151). -/
def Instr.operand (i : Instr) : Operand := i.view.2

/-- The bytes the instruction has (R151, R160). -/
def Instr.length (i : Instr) : Nat := i.operand.mode.length

end Sys2Proof
end

