-- ==== Sys2Proof/WellFormed.lean ====
section
/-! DEFINITION. Which instruction terms have an encoding. A byte or address operand of `Instr` is a bit
vector of exactly its field's width and no operand value is reserved (spec/30_encoding.md R153, R157), so
the only thing to check is the range of a branch displacement (R152, R161): two checks, one per end. -/

namespace Sys2Proof

/-- `rel8` reaches from PC_next - 128 to PC_next + 127 (R152). -/
def Operand.wellFormed : Operand → Bool
  | .relative disp => decide (-128 ≤ disp) && decide (disp ≤ 127)
  | .implied | .accumulator | .immediate _ | .indirect _ | .memory _ => true

/-- The instruction has an encoding: a branch's displacement fits in `rel8`. -/
def Instr.wellFormed (i : Instr) : Bool := i.operand.wellFormed

end Sys2Proof
end

