-- ==== Sys2Proof/Decode.lean ====
section
/-! DEFINITION. Decoding, total on any bytes and rejecting by name, and after it the encoder. Decoding is
a function of the opcode byte alone (spec/30_encoding.md R153); the rows below are the table of R154, read
by the opcode's two nibbles as in R155. -/

namespace Sys2Proof

/-- A hexadecimal digit of the opcode byte. -/
inductive Nibble where
  | n0 | n1 | n2 | n3 | n4 | n5 | n6 | n7 | n8 | n9 | nA | nB | nC | nD | nE | nF
  deriving DecidableEq, Repr

/-- The digit with these bits, the most significant first. -/
def Nibble.ofBits : Bool → Bool → Bool → Bool → Nibble
  | false, false, false, false => .n0
  | false, false, false, true => .n1
  | false, false, true, false => .n2
  | false, false, true, true => .n3
  | false, true, false, false => .n4
  | false, true, false, true => .n5
  | false, true, true, false => .n6
  | false, true, true, true => .n7
  | true, false, false, false => .n8
  | true, false, false, true => .n9
  | true, false, true, false => .nA
  | true, false, true, true => .nB
  | true, true, false, false => .nC
  | true, true, false, true => .nD
  | true, true, true, false => .nE
  | true, true, true, true => .nF

/-- Bits 7 to 4 of a byte. -/
def highNibble (b : Byte) : Nibble :=
  Nibble.ofBits (b.getLsbD 7) (b.getLsbD 6) (b.getLsbD 5) (b.getLsbD 4)

/-- Bits 3 to 0 of a byte. -/
def lowNibble (b : Byte) : Nibble :=
  Nibble.ofBits (b.getLsbD 3) (b.getLsbD 2) (b.getLsbD 1) (b.getLsbD 0)

/-- The 16-bit value of two bytes: `lo | (hi << 8)` (spec/20_memory.md R107). -/
def word16 (lo hi : Byte) : Addr := hi ++ lo

/-- The low byte of a 16-bit value. -/
def lowByte (a : Addr) : Byte := a.extractLsb' 0 8

/-- The high byte of a 16-bit value: an address's page (spec/00_scope.md R14). -/
def highByte (a : Addr) : Byte := a.extractLsb' 8 8

/-- The `abs16` field: bytes 1 and 2 of the instruction, low byte first (R150, R152). -/
def abs16 (byteAt : Nat → Byte) : Addr := word16 (byteAt 1) (byteAt 2)

/-- The `rel8` field: byte 1, a signed displacement (R152). -/
def rel8 (byteAt : Nat → Byte) : Int := (byteAt 1).toInt

/-- The table of R154: the instruction whose opcode has the two digits, its operand bytes taken from
the instruction's own bytes 1 and 2. Only the bytes its mode has are looked at. -/
def decodeRow (hi lo : Nibble) (byteAt : Nat → Byte) : Instr :=
  match hi, lo with
  | .n0, .n0 => .brk
  | .n0, .n1 => .oraIndX (byteAt 1)
  | .n0, .n2 => .jam02
  | .n0, .n3 => .sloIndX (byteAt 1)
  | .n0, .n4 => .nopZp04 (byteAt 1)
  | .n0, .n5 => .oraZp (byteAt 1)
  | .n0, .n6 => .aslZp (byteAt 1)
  | .n0, .n7 => .sloZp (byteAt 1)
  | .n0, .n8 => .php
  | .n0, .n9 => .oraImm (byteAt 1)
  | .n0, .nA => .aslAcc
  | .n0, .nB => .ancImm0B (byteAt 1)
  | .n0, .nC => .nopAbs (abs16 byteAt)
  | .n0, .nD => .oraAbs (abs16 byteAt)
  | .n0, .nE => .aslAbs (abs16 byteAt)
  | .n0, .nF => .sloAbs (abs16 byteAt)
  | .n1, .n0 => .bpl (rel8 byteAt)
  | .n1, .n1 => .oraIndY (byteAt 1)
  | .n1, .n2 => .jam12
  | .n1, .n3 => .sloIndY (byteAt 1)
  | .n1, .n4 => .nopZpX14 (byteAt 1)
  | .n1, .n5 => .oraZpX (byteAt 1)
  | .n1, .n6 => .aslZpX (byteAt 1)
  | .n1, .n7 => .sloZpX (byteAt 1)
  | .n1, .n8 => .clc
  | .n1, .n9 => .oraAbsY (abs16 byteAt)
  | .n1, .nA => .nop1A
  | .n1, .nB => .sloAbsY (abs16 byteAt)
  | .n1, .nC => .nopAbsX1C (abs16 byteAt)
  | .n1, .nD => .oraAbsX (abs16 byteAt)
  | .n1, .nE => .aslAbsX (abs16 byteAt)
  | .n1, .nF => .sloAbsX (abs16 byteAt)
  | .n2, .n0 => .jsr (abs16 byteAt)
  | .n2, .n1 => .andIndX (byteAt 1)
  | .n2, .n2 => .jam22
  | .n2, .n3 => .rlaIndX (byteAt 1)
  | .n2, .n4 => .bitZp (byteAt 1)
  | .n2, .n5 => .andZp (byteAt 1)
  | .n2, .n6 => .rolZp (byteAt 1)
  | .n2, .n7 => .rlaZp (byteAt 1)
  | .n2, .n8 => .plp
  | .n2, .n9 => .andImm (byteAt 1)
  | .n2, .nA => .rolAcc
  | .n2, .nB => .ancImm2B (byteAt 1)
  | .n2, .nC => .bitAbs (abs16 byteAt)
  | .n2, .nD => .andAbs (abs16 byteAt)
  | .n2, .nE => .rolAbs (abs16 byteAt)
  | .n2, .nF => .rlaAbs (abs16 byteAt)
  | .n3, .n0 => .bmi (rel8 byteAt)
  | .n3, .n1 => .andIndY (byteAt 1)
  | .n3, .n2 => .jam32
  | .n3, .n3 => .rlaIndY (byteAt 1)
  | .n3, .n4 => .nopZpX34 (byteAt 1)
  | .n3, .n5 => .andZpX (byteAt 1)
  | .n3, .n6 => .rolZpX (byteAt 1)
  | .n3, .n7 => .rlaZpX (byteAt 1)
  | .n3, .n8 => .sec
  | .n3, .n9 => .andAbsY (abs16 byteAt)
  | .n3, .nA => .nop3A
  | .n3, .nB => .rlaAbsY (abs16 byteAt)
  | .n3, .nC => .nopAbsX3C (abs16 byteAt)
  | .n3, .nD => .andAbsX (abs16 byteAt)
  | .n3, .nE => .rolAbsX (abs16 byteAt)
  | .n3, .nF => .rlaAbsX (abs16 byteAt)
  | .n4, .n0 => .rti
  | .n4, .n1 => .eorIndX (byteAt 1)
  | .n4, .n2 => .jam42
  | .n4, .n3 => .sreIndX (byteAt 1)
  | .n4, .n4 => .nopZp44 (byteAt 1)
  | .n4, .n5 => .eorZp (byteAt 1)
  | .n4, .n6 => .lsrZp (byteAt 1)
  | .n4, .n7 => .sreZp (byteAt 1)
  | .n4, .n8 => .pha
  | .n4, .n9 => .eorImm (byteAt 1)
  | .n4, .nA => .lsrAcc
  | .n4, .nB => .alrImm (byteAt 1)
  | .n4, .nC => .jmpAbs (abs16 byteAt)
  | .n4, .nD => .eorAbs (abs16 byteAt)
  | .n4, .nE => .lsrAbs (abs16 byteAt)
  | .n4, .nF => .sreAbs (abs16 byteAt)
  | .n5, .n0 => .bvc (rel8 byteAt)
  | .n5, .n1 => .eorIndY (byteAt 1)
  | .n5, .n2 => .jam52
  | .n5, .n3 => .sreIndY (byteAt 1)
  | .n5, .n4 => .nopZpX54 (byteAt 1)
  | .n5, .n5 => .eorZpX (byteAt 1)
  | .n5, .n6 => .lsrZpX (byteAt 1)
  | .n5, .n7 => .sreZpX (byteAt 1)
  | .n5, .n8 => .cli
  | .n5, .n9 => .eorAbsY (abs16 byteAt)
  | .n5, .nA => .nop5A
  | .n5, .nB => .sreAbsY (abs16 byteAt)
  | .n5, .nC => .nopAbsX5C (abs16 byteAt)
  | .n5, .nD => .eorAbsX (abs16 byteAt)
  | .n5, .nE => .lsrAbsX (abs16 byteAt)
  | .n5, .nF => .sreAbsX (abs16 byteAt)
  | .n6, .n0 => .rts
  | .n6, .n1 => .adcIndX (byteAt 1)
  | .n6, .n2 => .jam62
  | .n6, .n3 => .rraIndX (byteAt 1)
  | .n6, .n4 => .nopZp64 (byteAt 1)
  | .n6, .n5 => .adcZp (byteAt 1)
  | .n6, .n6 => .rorZp (byteAt 1)
  | .n6, .n7 => .rraZp (byteAt 1)
  | .n6, .n8 => .pla
  | .n6, .n9 => .adcImm (byteAt 1)
  | .n6, .nA => .rorAcc
  | .n6, .nB => .arrImm (byteAt 1)
  | .n6, .nC => .jmpInd (abs16 byteAt)
  | .n6, .nD => .adcAbs (abs16 byteAt)
  | .n6, .nE => .rorAbs (abs16 byteAt)
  | .n6, .nF => .rraAbs (abs16 byteAt)
  | .n7, .n0 => .bvs (rel8 byteAt)
  | .n7, .n1 => .adcIndY (byteAt 1)
  | .n7, .n2 => .jam72
  | .n7, .n3 => .rraIndY (byteAt 1)
  | .n7, .n4 => .nopZpX74 (byteAt 1)
  | .n7, .n5 => .adcZpX (byteAt 1)
  | .n7, .n6 => .rorZpX (byteAt 1)
  | .n7, .n7 => .rraZpX (byteAt 1)
  | .n7, .n8 => .sei
  | .n7, .n9 => .adcAbsY (abs16 byteAt)
  | .n7, .nA => .nop7A
  | .n7, .nB => .rraAbsY (abs16 byteAt)
  | .n7, .nC => .nopAbsX7C (abs16 byteAt)
  | .n7, .nD => .adcAbsX (abs16 byteAt)
  | .n7, .nE => .rorAbsX (abs16 byteAt)
  | .n7, .nF => .rraAbsX (abs16 byteAt)
  | .n8, .n0 => .nopImm80 (byteAt 1)
  | .n8, .n1 => .staIndX (byteAt 1)
  | .n8, .n2 => .nopImm82 (byteAt 1)
  | .n8, .n3 => .saxIndX (byteAt 1)
  | .n8, .n4 => .styZp (byteAt 1)
  | .n8, .n5 => .staZp (byteAt 1)
  | .n8, .n6 => .stxZp (byteAt 1)
  | .n8, .n7 => .saxZp (byteAt 1)
  | .n8, .n8 => .dey
  | .n8, .n9 => .nopImm89 (byteAt 1)
  | .n8, .nA => .txa
  | .n8, .nB => .aneImm (byteAt 1)
  | .n8, .nC => .styAbs (abs16 byteAt)
  | .n8, .nD => .staAbs (abs16 byteAt)
  | .n8, .nE => .stxAbs (abs16 byteAt)
  | .n8, .nF => .saxAbs (abs16 byteAt)
  | .n9, .n0 => .bcc (rel8 byteAt)
  | .n9, .n1 => .staIndY (byteAt 1)
  | .n9, .n2 => .jam92
  | .n9, .n3 => .shaIndY (byteAt 1)
  | .n9, .n4 => .styZpX (byteAt 1)
  | .n9, .n5 => .staZpX (byteAt 1)
  | .n9, .n6 => .stxZpY (byteAt 1)
  | .n9, .n7 => .saxZpY (byteAt 1)
  | .n9, .n8 => .tya
  | .n9, .n9 => .staAbsY (abs16 byteAt)
  | .n9, .nA => .txs
  | .n9, .nB => .tasAbsY (abs16 byteAt)
  | .n9, .nC => .shyAbsX (abs16 byteAt)
  | .n9, .nD => .staAbsX (abs16 byteAt)
  | .n9, .nE => .shxAbsY (abs16 byteAt)
  | .n9, .nF => .shaAbsY (abs16 byteAt)
  | .nA, .n0 => .ldyImm (byteAt 1)
  | .nA, .n1 => .ldaIndX (byteAt 1)
  | .nA, .n2 => .ldxImm (byteAt 1)
  | .nA, .n3 => .laxIndX (byteAt 1)
  | .nA, .n4 => .ldyZp (byteAt 1)
  | .nA, .n5 => .ldaZp (byteAt 1)
  | .nA, .n6 => .ldxZp (byteAt 1)
  | .nA, .n7 => .laxZp (byteAt 1)
  | .nA, .n8 => .tay
  | .nA, .n9 => .ldaImm (byteAt 1)
  | .nA, .nA => .tax
  | .nA, .nB => .lxaImm (byteAt 1)
  | .nA, .nC => .ldyAbs (abs16 byteAt)
  | .nA, .nD => .ldaAbs (abs16 byteAt)
  | .nA, .nE => .ldxAbs (abs16 byteAt)
  | .nA, .nF => .laxAbs (abs16 byteAt)
  | .nB, .n0 => .bcs (rel8 byteAt)
  | .nB, .n1 => .ldaIndY (byteAt 1)
  | .nB, .n2 => .jamB2
  | .nB, .n3 => .laxIndY (byteAt 1)
  | .nB, .n4 => .ldyZpX (byteAt 1)
  | .nB, .n5 => .ldaZpX (byteAt 1)
  | .nB, .n6 => .ldxZpY (byteAt 1)
  | .nB, .n7 => .laxZpY (byteAt 1)
  | .nB, .n8 => .clv
  | .nB, .n9 => .ldaAbsY (abs16 byteAt)
  | .nB, .nA => .tsx
  | .nB, .nB => .lasAbsY (abs16 byteAt)
  | .nB, .nC => .ldyAbsX (abs16 byteAt)
  | .nB, .nD => .ldaAbsX (abs16 byteAt)
  | .nB, .nE => .ldxAbsY (abs16 byteAt)
  | .nB, .nF => .laxAbsY (abs16 byteAt)
  | .nC, .n0 => .cpyImm (byteAt 1)
  | .nC, .n1 => .cmpIndX (byteAt 1)
  | .nC, .n2 => .nopImmC2 (byteAt 1)
  | .nC, .n3 => .dcpIndX (byteAt 1)
  | .nC, .n4 => .cpyZp (byteAt 1)
  | .nC, .n5 => .cmpZp (byteAt 1)
  | .nC, .n6 => .decZp (byteAt 1)
  | .nC, .n7 => .dcpZp (byteAt 1)
  | .nC, .n8 => .iny
  | .nC, .n9 => .cmpImm (byteAt 1)
  | .nC, .nA => .dex
  | .nC, .nB => .sbxImm (byteAt 1)
  | .nC, .nC => .cpyAbs (abs16 byteAt)
  | .nC, .nD => .cmpAbs (abs16 byteAt)
  | .nC, .nE => .decAbs (abs16 byteAt)
  | .nC, .nF => .dcpAbs (abs16 byteAt)
  | .nD, .n0 => .bne (rel8 byteAt)
  | .nD, .n1 => .cmpIndY (byteAt 1)
  | .nD, .n2 => .jamD2
  | .nD, .n3 => .dcpIndY (byteAt 1)
  | .nD, .n4 => .nopZpXD4 (byteAt 1)
  | .nD, .n5 => .cmpZpX (byteAt 1)
  | .nD, .n6 => .decZpX (byteAt 1)
  | .nD, .n7 => .dcpZpX (byteAt 1)
  | .nD, .n8 => .cld
  | .nD, .n9 => .cmpAbsY (abs16 byteAt)
  | .nD, .nA => .nopDA
  | .nD, .nB => .dcpAbsY (abs16 byteAt)
  | .nD, .nC => .nopAbsXDC (abs16 byteAt)
  | .nD, .nD => .cmpAbsX (abs16 byteAt)
  | .nD, .nE => .decAbsX (abs16 byteAt)
  | .nD, .nF => .dcpAbsX (abs16 byteAt)
  | .nE, .n0 => .cpxImm (byteAt 1)
  | .nE, .n1 => .sbcIndX (byteAt 1)
  | .nE, .n2 => .nopImmE2 (byteAt 1)
  | .nE, .n3 => .iscIndX (byteAt 1)
  | .nE, .n4 => .cpxZp (byteAt 1)
  | .nE, .n5 => .sbcZp (byteAt 1)
  | .nE, .n6 => .incZp (byteAt 1)
  | .nE, .n7 => .iscZp (byteAt 1)
  | .nE, .n8 => .inx
  | .nE, .n9 => .sbcImm (byteAt 1)
  | .nE, .nA => .nop
  | .nE, .nB => .usbcImm (byteAt 1)
  | .nE, .nC => .cpxAbs (abs16 byteAt)
  | .nE, .nD => .sbcAbs (abs16 byteAt)
  | .nE, .nE => .incAbs (abs16 byteAt)
  | .nE, .nF => .iscAbs (abs16 byteAt)
  | .nF, .n0 => .beq (rel8 byteAt)
  | .nF, .n1 => .sbcIndY (byteAt 1)
  | .nF, .n2 => .jamF2
  | .nF, .n3 => .iscIndY (byteAt 1)
  | .nF, .n4 => .nopZpXF4 (byteAt 1)
  | .nF, .n5 => .sbcZpX (byteAt 1)
  | .nF, .n6 => .incZpX (byteAt 1)
  | .nF, .n7 => .iscZpX (byteAt 1)
  | .nF, .n8 => .sed
  | .nF, .n9 => .sbcAbsY (abs16 byteAt)
  | .nF, .nA => .nopFA
  | .nF, .nB => .iscAbsY (abs16 byteAt)
  | .nF, .nC => .nopAbsXFC (abs16 byteAt)
  | .nF, .nD => .sbcAbsX (abs16 byteAt)
  | .nF, .nE => .incAbsX (abs16 byteAt)
  | .nF, .nF => .iscAbsX (abs16 byteAt)

/-- The instruction at a sequence of bytes, byte 0 its opcode (R153). -/
def decodeAt (byteAt : Nat → Byte) : Instr :=
  decodeRow (highNibble (byteAt 0)) (lowNibble (byteAt 0)) byteAt

/-- Why a list of bytes holds no instruction. Every opcode decodes (R153), so only a list that ends
too early is rejected; the machine's own fetch never meets one (spec/20_memory.md R101). -/
inductive DecodeError where
  | noOpcode
  | operandBytesMissing (opcode : Byte)
  deriving DecidableEq, Repr

/-- The result of decoding a list of bytes: the instruction and the bytes after it, or a rejection. -/
inductive Decoded where
  | instr (i : Instr) (rest : List Byte)
  | rejected (why : DecodeError)
  deriving DecidableEq, Repr

/-- Byte `k` of a list. -/
def byteOf (bytes : List Byte) (k : Nat) : Byte := bytes.getD k 0#8

/-- Decode the first instruction of a list of bytes. The length is known from the opcode (R160). -/
def decode (bytes : List Byte) : Decoded :=
  match bytes with
  | [] => .rejected .noOpcode
  | opcode :: operandBytes =>
    let i := decodeAt (byteOf (opcode :: operandBytes))
    if i.length ≤ operandBytes.length + 1 then
      .instr i (operandBytes.drop (i.length - 1))
    else
      .rejected (.operandBytesMissing opcode)

/-- The longest instruction, in bytes (R150). -/
def maxInstrBytes : Nat := 3

/-- Byte `k` of an instruction given as one number, bit 0 the least significant bit of its first byte,
the bits from `nbits` on zero. -/
def tableByte (nbits w k : Nat) : Byte := BitVec.ofNat 8 ((w % 2 ^ nbits) / 2 ^ (8 * k))

/-- The bytes of such an instruction, as many as the longest has. -/
def tableBytes (nbits w : Nat) : List Byte := (List.range maxInstrBytes).map (tableByte nbits w)

/-- The instruction the decoder reads from a row of spec/opcode_table.json given as one number. -/
def decodeTableWord (nbits w : Nat) : Option Instr :=
  if nbits < 8 then none
  else
    match decode (tableBytes nbits w) with
    | .instr i _ => some i
    | .rejected _ => none

/-! The encoder, from the same table (R154) and the same fields (R150, R152). -/

/-- The opcode byte of an instruction (R154). -/
def Instr.opcode : Instr → Byte
  | .brk => 0x00#8
  | .oraIndX _ => 0x01#8
  | .jam02 => 0x02#8
  | .sloIndX _ => 0x03#8
  | .nopZp04 _ => 0x04#8
  | .oraZp _ => 0x05#8
  | .aslZp _ => 0x06#8
  | .sloZp _ => 0x07#8
  | .php => 0x08#8
  | .oraImm _ => 0x09#8
  | .aslAcc => 0x0A#8
  | .ancImm0B _ => 0x0B#8
  | .nopAbs _ => 0x0C#8
  | .oraAbs _ => 0x0D#8
  | .aslAbs _ => 0x0E#8
  | .sloAbs _ => 0x0F#8
  | .bpl _ => 0x10#8
  | .oraIndY _ => 0x11#8
  | .jam12 => 0x12#8
  | .sloIndY _ => 0x13#8
  | .nopZpX14 _ => 0x14#8
  | .oraZpX _ => 0x15#8
  | .aslZpX _ => 0x16#8
  | .sloZpX _ => 0x17#8
  | .clc => 0x18#8
  | .oraAbsY _ => 0x19#8
  | .nop1A => 0x1A#8
  | .sloAbsY _ => 0x1B#8
  | .nopAbsX1C _ => 0x1C#8
  | .oraAbsX _ => 0x1D#8
  | .aslAbsX _ => 0x1E#8
  | .sloAbsX _ => 0x1F#8
  | .jsr _ => 0x20#8
  | .andIndX _ => 0x21#8
  | .jam22 => 0x22#8
  | .rlaIndX _ => 0x23#8
  | .bitZp _ => 0x24#8
  | .andZp _ => 0x25#8
  | .rolZp _ => 0x26#8
  | .rlaZp _ => 0x27#8
  | .plp => 0x28#8
  | .andImm _ => 0x29#8
  | .rolAcc => 0x2A#8
  | .ancImm2B _ => 0x2B#8
  | .bitAbs _ => 0x2C#8
  | .andAbs _ => 0x2D#8
  | .rolAbs _ => 0x2E#8
  | .rlaAbs _ => 0x2F#8
  | .bmi _ => 0x30#8
  | .andIndY _ => 0x31#8
  | .jam32 => 0x32#8
  | .rlaIndY _ => 0x33#8
  | .nopZpX34 _ => 0x34#8
  | .andZpX _ => 0x35#8
  | .rolZpX _ => 0x36#8
  | .rlaZpX _ => 0x37#8
  | .sec => 0x38#8
  | .andAbsY _ => 0x39#8
  | .nop3A => 0x3A#8
  | .rlaAbsY _ => 0x3B#8
  | .nopAbsX3C _ => 0x3C#8
  | .andAbsX _ => 0x3D#8
  | .rolAbsX _ => 0x3E#8
  | .rlaAbsX _ => 0x3F#8
  | .rti => 0x40#8
  | .eorIndX _ => 0x41#8
  | .jam42 => 0x42#8
  | .sreIndX _ => 0x43#8
  | .nopZp44 _ => 0x44#8
  | .eorZp _ => 0x45#8
  | .lsrZp _ => 0x46#8
  | .sreZp _ => 0x47#8
  | .pha => 0x48#8
  | .eorImm _ => 0x49#8
  | .lsrAcc => 0x4A#8
  | .alrImm _ => 0x4B#8
  | .jmpAbs _ => 0x4C#8
  | .eorAbs _ => 0x4D#8
  | .lsrAbs _ => 0x4E#8
  | .sreAbs _ => 0x4F#8
  | .bvc _ => 0x50#8
  | .eorIndY _ => 0x51#8
  | .jam52 => 0x52#8
  | .sreIndY _ => 0x53#8
  | .nopZpX54 _ => 0x54#8
  | .eorZpX _ => 0x55#8
  | .lsrZpX _ => 0x56#8
  | .sreZpX _ => 0x57#8
  | .cli => 0x58#8
  | .eorAbsY _ => 0x59#8
  | .nop5A => 0x5A#8
  | .sreAbsY _ => 0x5B#8
  | .nopAbsX5C _ => 0x5C#8
  | .eorAbsX _ => 0x5D#8
  | .lsrAbsX _ => 0x5E#8
  | .sreAbsX _ => 0x5F#8
  | .rts => 0x60#8
  | .adcIndX _ => 0x61#8
  | .jam62 => 0x62#8
  | .rraIndX _ => 0x63#8
  | .nopZp64 _ => 0x64#8
  | .adcZp _ => 0x65#8
  | .rorZp _ => 0x66#8
  | .rraZp _ => 0x67#8
  | .pla => 0x68#8
  | .adcImm _ => 0x69#8
  | .rorAcc => 0x6A#8
  | .arrImm _ => 0x6B#8
  | .jmpInd _ => 0x6C#8
  | .adcAbs _ => 0x6D#8
  | .rorAbs _ => 0x6E#8
  | .rraAbs _ => 0x6F#8
  | .bvs _ => 0x70#8
  | .adcIndY _ => 0x71#8
  | .jam72 => 0x72#8
  | .rraIndY _ => 0x73#8
  | .nopZpX74 _ => 0x74#8
  | .adcZpX _ => 0x75#8
  | .rorZpX _ => 0x76#8
  | .rraZpX _ => 0x77#8
  | .sei => 0x78#8
  | .adcAbsY _ => 0x79#8
  | .nop7A => 0x7A#8
  | .rraAbsY _ => 0x7B#8
  | .nopAbsX7C _ => 0x7C#8
  | .adcAbsX _ => 0x7D#8
  | .rorAbsX _ => 0x7E#8
  | .rraAbsX _ => 0x7F#8
  | .nopImm80 _ => 0x80#8
  | .staIndX _ => 0x81#8
  | .nopImm82 _ => 0x82#8
  | .saxIndX _ => 0x83#8
  | .styZp _ => 0x84#8
  | .staZp _ => 0x85#8
  | .stxZp _ => 0x86#8
  | .saxZp _ => 0x87#8
  | .dey => 0x88#8
  | .nopImm89 _ => 0x89#8
  | .txa => 0x8A#8
  | .aneImm _ => 0x8B#8
  | .styAbs _ => 0x8C#8
  | .staAbs _ => 0x8D#8
  | .stxAbs _ => 0x8E#8
  | .saxAbs _ => 0x8F#8
  | .bcc _ => 0x90#8
  | .staIndY _ => 0x91#8
  | .jam92 => 0x92#8
  | .shaIndY _ => 0x93#8
  | .styZpX _ => 0x94#8
  | .staZpX _ => 0x95#8
  | .stxZpY _ => 0x96#8
  | .saxZpY _ => 0x97#8
  | .tya => 0x98#8
  | .staAbsY _ => 0x99#8
  | .txs => 0x9A#8
  | .tasAbsY _ => 0x9B#8
  | .shyAbsX _ => 0x9C#8
  | .staAbsX _ => 0x9D#8
  | .shxAbsY _ => 0x9E#8
  | .shaAbsY _ => 0x9F#8
  | .ldyImm _ => 0xA0#8
  | .ldaIndX _ => 0xA1#8
  | .ldxImm _ => 0xA2#8
  | .laxIndX _ => 0xA3#8
  | .ldyZp _ => 0xA4#8
  | .ldaZp _ => 0xA5#8
  | .ldxZp _ => 0xA6#8
  | .laxZp _ => 0xA7#8
  | .tay => 0xA8#8
  | .ldaImm _ => 0xA9#8
  | .tax => 0xAA#8
  | .lxaImm _ => 0xAB#8
  | .ldyAbs _ => 0xAC#8
  | .ldaAbs _ => 0xAD#8
  | .ldxAbs _ => 0xAE#8
  | .laxAbs _ => 0xAF#8
  | .bcs _ => 0xB0#8
  | .ldaIndY _ => 0xB1#8
  | .jamB2 => 0xB2#8
  | .laxIndY _ => 0xB3#8
  | .ldyZpX _ => 0xB4#8
  | .ldaZpX _ => 0xB5#8
  | .ldxZpY _ => 0xB6#8
  | .laxZpY _ => 0xB7#8
  | .clv => 0xB8#8
  | .ldaAbsY _ => 0xB9#8
  | .tsx => 0xBA#8
  | .lasAbsY _ => 0xBB#8
  | .ldyAbsX _ => 0xBC#8
  | .ldaAbsX _ => 0xBD#8
  | .ldxAbsY _ => 0xBE#8
  | .laxAbsY _ => 0xBF#8
  | .cpyImm _ => 0xC0#8
  | .cmpIndX _ => 0xC1#8
  | .nopImmC2 _ => 0xC2#8
  | .dcpIndX _ => 0xC3#8
  | .cpyZp _ => 0xC4#8
  | .cmpZp _ => 0xC5#8
  | .decZp _ => 0xC6#8
  | .dcpZp _ => 0xC7#8
  | .iny => 0xC8#8
  | .cmpImm _ => 0xC9#8
  | .dex => 0xCA#8
  | .sbxImm _ => 0xCB#8
  | .cpyAbs _ => 0xCC#8
  | .cmpAbs _ => 0xCD#8
  | .decAbs _ => 0xCE#8
  | .dcpAbs _ => 0xCF#8
  | .bne _ => 0xD0#8
  | .cmpIndY _ => 0xD1#8
  | .jamD2 => 0xD2#8
  | .dcpIndY _ => 0xD3#8
  | .nopZpXD4 _ => 0xD4#8
  | .cmpZpX _ => 0xD5#8
  | .decZpX _ => 0xD6#8
  | .dcpZpX _ => 0xD7#8
  | .cld => 0xD8#8
  | .cmpAbsY _ => 0xD9#8
  | .nopDA => 0xDA#8
  | .dcpAbsY _ => 0xDB#8
  | .nopAbsXDC _ => 0xDC#8
  | .cmpAbsX _ => 0xDD#8
  | .decAbsX _ => 0xDE#8
  | .dcpAbsX _ => 0xDF#8
  | .cpxImm _ => 0xE0#8
  | .sbcIndX _ => 0xE1#8
  | .nopImmE2 _ => 0xE2#8
  | .iscIndX _ => 0xE3#8
  | .cpxZp _ => 0xE4#8
  | .sbcZp _ => 0xE5#8
  | .incZp _ => 0xE6#8
  | .iscZp _ => 0xE7#8
  | .inx => 0xE8#8
  | .sbcImm _ => 0xE9#8
  | .nop => 0xEA#8
  | .usbcImm _ => 0xEB#8
  | .cpxAbs _ => 0xEC#8
  | .sbcAbs _ => 0xED#8
  | .incAbs _ => 0xEE#8
  | .iscAbs _ => 0xEF#8
  | .beq _ => 0xF0#8
  | .sbcIndY _ => 0xF1#8
  | .jamF2 => 0xF2#8
  | .iscIndY _ => 0xF3#8
  | .nopZpXF4 _ => 0xF4#8
  | .sbcZpX _ => 0xF5#8
  | .incZpX _ => 0xF6#8
  | .iscZpX _ => 0xF7#8
  | .sed => 0xF8#8
  | .sbcAbsY _ => 0xF9#8
  | .nopFA => 0xFA#8
  | .iscAbsY _ => 0xFB#8
  | .nopAbsXFC _ => 0xFC#8
  | .sbcAbsX _ => 0xFD#8
  | .incAbsX _ => 0xFE#8
  | .iscAbsX _ => 0xFF#8

/-- The operand bytes of an operand, in address order (R150, R152). -/
def Operand.bytes : Operand → List Byte
  | .implied | .accumulator => []
  | .immediate v => [v]
  | .relative disp => [BitVec.ofInt 8 disp]
  | .indirect ptr => [lowByte ptr, highByte ptr]
  | .memory (.zeropage zp) | .memory (.zeropageX zp) | .memory (.zeropageY zp)
  | .memory (.indirectX zp) | .memory (.indexed (.indirectY zp)) => [zp]
  | .memory (.absolute addr) | .memory (.indexed (.absoluteX addr))
  | .memory (.indexed (.absoluteY addr)) => [lowByte addr, highByte addr]

/-- The bytes of an instruction (R150). -/
def encode (i : Instr) : List Byte := i.opcode :: i.operand.bytes

end Sys2Proof
end

