-- ==== Sys2Proof/Machine/Descriptor.lean ====
section
/-! DEFINITION. The Instruction Descriptor table (spec/10_state.md R71, spec/30_encoding.md R154): the
static data of the machine, one row per opcode byte, read by the opcode's two nibbles. -/

namespace Sys2Proof.Machine

/-- A row of the table: mnemonic, mode, base cycle count, and whether a page crossing costs one more
cycle (R71, spec/40_execution.md R202, R220; C6). -/
structure Descriptor where
  mnemonic : Mnemonic
  mode : Mode
  base : Nat
  penalty : Bool
  deriving DecidableEq, Repr

/-- The 256 rows of R154. -/
def descriptorRow (hi lo : Nibble) : Descriptor :=
  match hi, lo with
  | .n0, .n0 => ⟨.BRK, .implied, 7, false⟩
  | .n0, .n1 => ⟨.ORA, .indirectX, 6, false⟩
  | .n0, .n2 => ⟨.JAM, .implied, 2, false⟩
  | .n0, .n3 => ⟨.SLO, .indirectX, 8, false⟩
  | .n0, .n4 => ⟨.NOP, .zeropage, 3, false⟩
  | .n0, .n5 => ⟨.ORA, .zeropage, 3, false⟩
  | .n0, .n6 => ⟨.ASL, .zeropage, 5, false⟩
  | .n0, .n7 => ⟨.SLO, .zeropage, 5, false⟩
  | .n0, .n8 => ⟨.PHP, .implied, 3, false⟩
  | .n0, .n9 => ⟨.ORA, .immediate, 2, false⟩
  | .n0, .nA => ⟨.ASL, .accumulator, 2, false⟩
  | .n0, .nB => ⟨.ANC, .immediate, 2, false⟩
  | .n0, .nC => ⟨.NOP, .absolute, 4, false⟩
  | .n0, .nD => ⟨.ORA, .absolute, 4, false⟩
  | .n0, .nE => ⟨.ASL, .absolute, 6, false⟩
  | .n0, .nF => ⟨.SLO, .absolute, 6, false⟩
  | .n1, .n0 => ⟨.BPL, .relative, 2, false⟩
  | .n1, .n1 => ⟨.ORA, .indirectY, 5, true⟩
  | .n1, .n2 => ⟨.JAM, .implied, 2, false⟩
  | .n1, .n3 => ⟨.SLO, .indirectY, 8, false⟩
  | .n1, .n4 => ⟨.NOP, .zeropageX, 4, false⟩
  | .n1, .n5 => ⟨.ORA, .zeropageX, 4, false⟩
  | .n1, .n6 => ⟨.ASL, .zeropageX, 6, false⟩
  | .n1, .n7 => ⟨.SLO, .zeropageX, 6, false⟩
  | .n1, .n8 => ⟨.CLC, .implied, 2, false⟩
  | .n1, .n9 => ⟨.ORA, .absoluteY, 4, true⟩
  | .n1, .nA => ⟨.NOP, .implied, 2, false⟩
  | .n1, .nB => ⟨.SLO, .absoluteY, 7, false⟩
  | .n1, .nC => ⟨.NOP, .absoluteX, 4, true⟩
  | .n1, .nD => ⟨.ORA, .absoluteX, 4, true⟩
  | .n1, .nE => ⟨.ASL, .absoluteX, 7, false⟩
  | .n1, .nF => ⟨.SLO, .absoluteX, 7, false⟩
  | .n2, .n0 => ⟨.JSR, .absolute, 6, false⟩
  | .n2, .n1 => ⟨.AND, .indirectX, 6, false⟩
  | .n2, .n2 => ⟨.JAM, .implied, 2, false⟩
  | .n2, .n3 => ⟨.RLA, .indirectX, 8, false⟩
  | .n2, .n4 => ⟨.BIT, .zeropage, 3, false⟩
  | .n2, .n5 => ⟨.AND, .zeropage, 3, false⟩
  | .n2, .n6 => ⟨.ROL, .zeropage, 5, false⟩
  | .n2, .n7 => ⟨.RLA, .zeropage, 5, false⟩
  | .n2, .n8 => ⟨.PLP, .implied, 4, false⟩
  | .n2, .n9 => ⟨.AND, .immediate, 2, false⟩
  | .n2, .nA => ⟨.ROL, .accumulator, 2, false⟩
  | .n2, .nB => ⟨.ANC, .immediate, 2, false⟩
  | .n2, .nC => ⟨.BIT, .absolute, 4, false⟩
  | .n2, .nD => ⟨.AND, .absolute, 4, false⟩
  | .n2, .nE => ⟨.ROL, .absolute, 6, false⟩
  | .n2, .nF => ⟨.RLA, .absolute, 6, false⟩
  | .n3, .n0 => ⟨.BMI, .relative, 2, false⟩
  | .n3, .n1 => ⟨.AND, .indirectY, 5, true⟩
  | .n3, .n2 => ⟨.JAM, .implied, 2, false⟩
  | .n3, .n3 => ⟨.RLA, .indirectY, 8, false⟩
  | .n3, .n4 => ⟨.NOP, .zeropageX, 4, false⟩
  | .n3, .n5 => ⟨.AND, .zeropageX, 4, false⟩
  | .n3, .n6 => ⟨.ROL, .zeropageX, 6, false⟩
  | .n3, .n7 => ⟨.RLA, .zeropageX, 6, false⟩
  | .n3, .n8 => ⟨.SEC, .implied, 2, false⟩
  | .n3, .n9 => ⟨.AND, .absoluteY, 4, true⟩
  | .n3, .nA => ⟨.NOP, .implied, 2, false⟩
  | .n3, .nB => ⟨.RLA, .absoluteY, 7, false⟩
  | .n3, .nC => ⟨.NOP, .absoluteX, 4, true⟩
  | .n3, .nD => ⟨.AND, .absoluteX, 4, true⟩
  | .n3, .nE => ⟨.ROL, .absoluteX, 7, false⟩
  | .n3, .nF => ⟨.RLA, .absoluteX, 7, false⟩
  | .n4, .n0 => ⟨.RTI, .implied, 6, false⟩
  | .n4, .n1 => ⟨.EOR, .indirectX, 6, false⟩
  | .n4, .n2 => ⟨.JAM, .implied, 2, false⟩
  | .n4, .n3 => ⟨.SRE, .indirectX, 8, false⟩
  | .n4, .n4 => ⟨.NOP, .zeropage, 3, false⟩
  | .n4, .n5 => ⟨.EOR, .zeropage, 3, false⟩
  | .n4, .n6 => ⟨.LSR, .zeropage, 5, false⟩
  | .n4, .n7 => ⟨.SRE, .zeropage, 5, false⟩
  | .n4, .n8 => ⟨.PHA, .implied, 3, false⟩
  | .n4, .n9 => ⟨.EOR, .immediate, 2, false⟩
  | .n4, .nA => ⟨.LSR, .accumulator, 2, false⟩
  | .n4, .nB => ⟨.ALR, .immediate, 2, false⟩
  | .n4, .nC => ⟨.JMP, .absolute, 3, false⟩
  | .n4, .nD => ⟨.EOR, .absolute, 4, false⟩
  | .n4, .nE => ⟨.LSR, .absolute, 6, false⟩
  | .n4, .nF => ⟨.SRE, .absolute, 6, false⟩
  | .n5, .n0 => ⟨.BVC, .relative, 2, false⟩
  | .n5, .n1 => ⟨.EOR, .indirectY, 5, true⟩
  | .n5, .n2 => ⟨.JAM, .implied, 2, false⟩
  | .n5, .n3 => ⟨.SRE, .indirectY, 8, false⟩
  | .n5, .n4 => ⟨.NOP, .zeropageX, 4, false⟩
  | .n5, .n5 => ⟨.EOR, .zeropageX, 4, false⟩
  | .n5, .n6 => ⟨.LSR, .zeropageX, 6, false⟩
  | .n5, .n7 => ⟨.SRE, .zeropageX, 6, false⟩
  | .n5, .n8 => ⟨.CLI, .implied, 2, false⟩
  | .n5, .n9 => ⟨.EOR, .absoluteY, 4, true⟩
  | .n5, .nA => ⟨.NOP, .implied, 2, false⟩
  | .n5, .nB => ⟨.SRE, .absoluteY, 7, false⟩
  | .n5, .nC => ⟨.NOP, .absoluteX, 4, true⟩
  | .n5, .nD => ⟨.EOR, .absoluteX, 4, true⟩
  | .n5, .nE => ⟨.LSR, .absoluteX, 7, false⟩
  | .n5, .nF => ⟨.SRE, .absoluteX, 7, false⟩
  | .n6, .n0 => ⟨.RTS, .implied, 6, false⟩
  | .n6, .n1 => ⟨.ADC, .indirectX, 6, false⟩
  | .n6, .n2 => ⟨.JAM, .implied, 2, false⟩
  | .n6, .n3 => ⟨.RRA, .indirectX, 8, false⟩
  | .n6, .n4 => ⟨.NOP, .zeropage, 3, false⟩
  | .n6, .n5 => ⟨.ADC, .zeropage, 3, false⟩
  | .n6, .n6 => ⟨.ROR, .zeropage, 5, false⟩
  | .n6, .n7 => ⟨.RRA, .zeropage, 5, false⟩
  | .n6, .n8 => ⟨.PLA, .implied, 4, false⟩
  | .n6, .n9 => ⟨.ADC, .immediate, 2, false⟩
  | .n6, .nA => ⟨.ROR, .accumulator, 2, false⟩
  | .n6, .nB => ⟨.ARR, .immediate, 2, false⟩
  | .n6, .nC => ⟨.JMP, .indirect, 5, false⟩
  | .n6, .nD => ⟨.ADC, .absolute, 4, false⟩
  | .n6, .nE => ⟨.ROR, .absolute, 6, false⟩
  | .n6, .nF => ⟨.RRA, .absolute, 6, false⟩
  | .n7, .n0 => ⟨.BVS, .relative, 2, false⟩
  | .n7, .n1 => ⟨.ADC, .indirectY, 5, true⟩
  | .n7, .n2 => ⟨.JAM, .implied, 2, false⟩
  | .n7, .n3 => ⟨.RRA, .indirectY, 8, false⟩
  | .n7, .n4 => ⟨.NOP, .zeropageX, 4, false⟩
  | .n7, .n5 => ⟨.ADC, .zeropageX, 4, false⟩
  | .n7, .n6 => ⟨.ROR, .zeropageX, 6, false⟩
  | .n7, .n7 => ⟨.RRA, .zeropageX, 6, false⟩
  | .n7, .n8 => ⟨.SEI, .implied, 2, false⟩
  | .n7, .n9 => ⟨.ADC, .absoluteY, 4, true⟩
  | .n7, .nA => ⟨.NOP, .implied, 2, false⟩
  | .n7, .nB => ⟨.RRA, .absoluteY, 7, false⟩
  | .n7, .nC => ⟨.NOP, .absoluteX, 4, true⟩
  | .n7, .nD => ⟨.ADC, .absoluteX, 4, true⟩
  | .n7, .nE => ⟨.ROR, .absoluteX, 7, false⟩
  | .n7, .nF => ⟨.RRA, .absoluteX, 7, false⟩
  | .n8, .n0 => ⟨.NOP, .immediate, 2, false⟩
  | .n8, .n1 => ⟨.STA, .indirectX, 6, false⟩
  | .n8, .n2 => ⟨.NOP, .immediate, 2, false⟩
  | .n8, .n3 => ⟨.SAX, .indirectX, 6, false⟩
  | .n8, .n4 => ⟨.STY, .zeropage, 3, false⟩
  | .n8, .n5 => ⟨.STA, .zeropage, 3, false⟩
  | .n8, .n6 => ⟨.STX, .zeropage, 3, false⟩
  | .n8, .n7 => ⟨.SAX, .zeropage, 3, false⟩
  | .n8, .n8 => ⟨.DEY, .implied, 2, false⟩
  | .n8, .n9 => ⟨.NOP, .immediate, 2, false⟩
  | .n8, .nA => ⟨.TXA, .implied, 2, false⟩
  | .n8, .nB => ⟨.ANE, .immediate, 2, false⟩
  | .n8, .nC => ⟨.STY, .absolute, 4, false⟩
  | .n8, .nD => ⟨.STA, .absolute, 4, false⟩
  | .n8, .nE => ⟨.STX, .absolute, 4, false⟩
  | .n8, .nF => ⟨.SAX, .absolute, 4, false⟩
  | .n9, .n0 => ⟨.BCC, .relative, 2, false⟩
  | .n9, .n1 => ⟨.STA, .indirectY, 6, false⟩
  | .n9, .n2 => ⟨.JAM, .implied, 2, false⟩
  | .n9, .n3 => ⟨.SHA, .indirectY, 6, false⟩
  | .n9, .n4 => ⟨.STY, .zeropageX, 4, false⟩
  | .n9, .n5 => ⟨.STA, .zeropageX, 4, false⟩
  | .n9, .n6 => ⟨.STX, .zeropageY, 4, false⟩
  | .n9, .n7 => ⟨.SAX, .zeropageY, 4, false⟩
  | .n9, .n8 => ⟨.TYA, .implied, 2, false⟩
  | .n9, .n9 => ⟨.STA, .absoluteY, 5, false⟩
  | .n9, .nA => ⟨.TXS, .implied, 2, false⟩
  | .n9, .nB => ⟨.TAS, .absoluteY, 5, false⟩
  | .n9, .nC => ⟨.SHY, .absoluteX, 5, false⟩
  | .n9, .nD => ⟨.STA, .absoluteX, 5, false⟩
  | .n9, .nE => ⟨.SHX, .absoluteY, 5, false⟩
  | .n9, .nF => ⟨.SHA, .absoluteY, 5, false⟩
  | .nA, .n0 => ⟨.LDY, .immediate, 2, false⟩
  | .nA, .n1 => ⟨.LDA, .indirectX, 6, false⟩
  | .nA, .n2 => ⟨.LDX, .immediate, 2, false⟩
  | .nA, .n3 => ⟨.LAX, .indirectX, 6, false⟩
  | .nA, .n4 => ⟨.LDY, .zeropage, 3, false⟩
  | .nA, .n5 => ⟨.LDA, .zeropage, 3, false⟩
  | .nA, .n6 => ⟨.LDX, .zeropage, 3, false⟩
  | .nA, .n7 => ⟨.LAX, .zeropage, 3, false⟩
  | .nA, .n8 => ⟨.TAY, .implied, 2, false⟩
  | .nA, .n9 => ⟨.LDA, .immediate, 2, false⟩
  | .nA, .nA => ⟨.TAX, .implied, 2, false⟩
  | .nA, .nB => ⟨.LXA, .immediate, 2, false⟩
  | .nA, .nC => ⟨.LDY, .absolute, 4, false⟩
  | .nA, .nD => ⟨.LDA, .absolute, 4, false⟩
  | .nA, .nE => ⟨.LDX, .absolute, 4, false⟩
  | .nA, .nF => ⟨.LAX, .absolute, 4, false⟩
  | .nB, .n0 => ⟨.BCS, .relative, 2, false⟩
  | .nB, .n1 => ⟨.LDA, .indirectY, 5, true⟩
  | .nB, .n2 => ⟨.JAM, .implied, 2, false⟩
  | .nB, .n3 => ⟨.LAX, .indirectY, 5, true⟩
  | .nB, .n4 => ⟨.LDY, .zeropageX, 4, false⟩
  | .nB, .n5 => ⟨.LDA, .zeropageX, 4, false⟩
  | .nB, .n6 => ⟨.LDX, .zeropageY, 4, false⟩
  | .nB, .n7 => ⟨.LAX, .zeropageY, 4, false⟩
  | .nB, .n8 => ⟨.CLV, .implied, 2, false⟩
  | .nB, .n9 => ⟨.LDA, .absoluteY, 4, true⟩
  | .nB, .nA => ⟨.TSX, .implied, 2, false⟩
  | .nB, .nB => ⟨.LAS, .absoluteY, 4, true⟩
  | .nB, .nC => ⟨.LDY, .absoluteX, 4, true⟩
  | .nB, .nD => ⟨.LDA, .absoluteX, 4, true⟩
  | .nB, .nE => ⟨.LDX, .absoluteY, 4, true⟩
  | .nB, .nF => ⟨.LAX, .absoluteY, 4, true⟩
  | .nC, .n0 => ⟨.CPY, .immediate, 2, false⟩
  | .nC, .n1 => ⟨.CMP, .indirectX, 6, false⟩
  | .nC, .n2 => ⟨.NOP, .immediate, 2, false⟩
  | .nC, .n3 => ⟨.DCP, .indirectX, 8, false⟩
  | .nC, .n4 => ⟨.CPY, .zeropage, 3, false⟩
  | .nC, .n5 => ⟨.CMP, .zeropage, 3, false⟩
  | .nC, .n6 => ⟨.DEC, .zeropage, 5, false⟩
  | .nC, .n7 => ⟨.DCP, .zeropage, 5, false⟩
  | .nC, .n8 => ⟨.INY, .implied, 2, false⟩
  | .nC, .n9 => ⟨.CMP, .immediate, 2, false⟩
  | .nC, .nA => ⟨.DEX, .implied, 2, false⟩
  | .nC, .nB => ⟨.SBX, .immediate, 2, false⟩
  | .nC, .nC => ⟨.CPY, .absolute, 4, false⟩
  | .nC, .nD => ⟨.CMP, .absolute, 4, false⟩
  | .nC, .nE => ⟨.DEC, .absolute, 6, false⟩
  | .nC, .nF => ⟨.DCP, .absolute, 6, false⟩
  | .nD, .n0 => ⟨.BNE, .relative, 2, false⟩
  | .nD, .n1 => ⟨.CMP, .indirectY, 5, true⟩
  | .nD, .n2 => ⟨.JAM, .implied, 2, false⟩
  | .nD, .n3 => ⟨.DCP, .indirectY, 8, false⟩
  | .nD, .n4 => ⟨.NOP, .zeropageX, 4, false⟩
  | .nD, .n5 => ⟨.CMP, .zeropageX, 4, false⟩
  | .nD, .n6 => ⟨.DEC, .zeropageX, 6, false⟩
  | .nD, .n7 => ⟨.DCP, .zeropageX, 6, false⟩
  | .nD, .n8 => ⟨.CLD, .implied, 2, false⟩
  | .nD, .n9 => ⟨.CMP, .absoluteY, 4, true⟩
  | .nD, .nA => ⟨.NOP, .implied, 2, false⟩
  | .nD, .nB => ⟨.DCP, .absoluteY, 7, false⟩
  | .nD, .nC => ⟨.NOP, .absoluteX, 4, true⟩
  | .nD, .nD => ⟨.CMP, .absoluteX, 4, true⟩
  | .nD, .nE => ⟨.DEC, .absoluteX, 7, false⟩
  | .nD, .nF => ⟨.DCP, .absoluteX, 7, false⟩
  | .nE, .n0 => ⟨.CPX, .immediate, 2, false⟩
  | .nE, .n1 => ⟨.SBC, .indirectX, 6, false⟩
  | .nE, .n2 => ⟨.NOP, .immediate, 2, false⟩
  | .nE, .n3 => ⟨.ISC, .indirectX, 8, false⟩
  | .nE, .n4 => ⟨.CPX, .zeropage, 3, false⟩
  | .nE, .n5 => ⟨.SBC, .zeropage, 3, false⟩
  | .nE, .n6 => ⟨.INC, .zeropage, 5, false⟩
  | .nE, .n7 => ⟨.ISC, .zeropage, 5, false⟩
  | .nE, .n8 => ⟨.INX, .implied, 2, false⟩
  | .nE, .n9 => ⟨.SBC, .immediate, 2, false⟩
  | .nE, .nA => ⟨.NOP, .implied, 2, false⟩
  | .nE, .nB => ⟨.USBC, .immediate, 2, false⟩
  | .nE, .nC => ⟨.CPX, .absolute, 4, false⟩
  | .nE, .nD => ⟨.SBC, .absolute, 4, false⟩
  | .nE, .nE => ⟨.INC, .absolute, 6, false⟩
  | .nE, .nF => ⟨.ISC, .absolute, 6, false⟩
  | .nF, .n0 => ⟨.BEQ, .relative, 2, false⟩
  | .nF, .n1 => ⟨.SBC, .indirectY, 5, true⟩
  | .nF, .n2 => ⟨.JAM, .implied, 2, false⟩
  | .nF, .n3 => ⟨.ISC, .indirectY, 8, false⟩
  | .nF, .n4 => ⟨.NOP, .zeropageX, 4, false⟩
  | .nF, .n5 => ⟨.SBC, .zeropageX, 4, false⟩
  | .nF, .n6 => ⟨.INC, .zeropageX, 6, false⟩
  | .nF, .n7 => ⟨.ISC, .zeropageX, 6, false⟩
  | .nF, .n8 => ⟨.SED, .implied, 2, false⟩
  | .nF, .n9 => ⟨.SBC, .absoluteY, 4, true⟩
  | .nF, .nA => ⟨.NOP, .implied, 2, false⟩
  | .nF, .nB => ⟨.ISC, .absoluteY, 7, false⟩
  | .nF, .nC => ⟨.NOP, .absoluteX, 4, true⟩
  | .nF, .nD => ⟨.SBC, .absoluteX, 4, true⟩
  | .nF, .nE => ⟨.INC, .absoluteX, 7, false⟩
  | .nF, .nF => ⟨.ISC, .absoluteX, 7, false⟩

/-- `Table[opcode]` (R153, R202). -/
def descriptor (opcode : Byte) : Descriptor := descriptorRow (highNibble opcode) (lowNibble opcode)

end Sys2Proof.Machine
end

