-- ==== Sys2Proof/Config.lean ====
section
/-! DEFINITION. What is fixed for the machine and is no state: the parameters of spec/00_scope.md R9.
A parameter the spec leaves OPEN is an opaque constant: nothing can evaluate it, so a statement about
it holds for every value. -/

namespace Sys2Proof

/-- BusState (spec/10_state.md R73): the backing store, as address and byte pairs, and the internal state of
the mapped devices, as one list of numbers that the devices lay out as they like (assumption 5). -/
structure BusState where
  mem : List Host.Cell
  devices : List Nat
  deriving DecidableEq, Repr

/-- A device of a bus: its read function, with the update of the bus's state, and its write function (R9,
spec/20_memory.md R105). Both are total (R101). -/
structure Device where
  read : Addr → BusState → Byte × BusState
  write : Addr → Byte → BusState → BusState

/-- The type of the parameter `BUS` (R9, spec/20_memory.md R103): a decoder that routes each address to at most
one mapped device. An address that is routed to none is unmapped. -/
structure Bus where
  route : Addr → Option Device

/-- `DECIMAL_ENABLED` (R9, D2): false on this hardware. The operations that depend on it take it as
an argument, so both variants of the spec are modelled. -/
def Config.decimalEnabled : Bool := false

/-- `ANE_MAGIC` (R9, D14): the chip-dependent constant of ANE, OPEN (assumption 4). -/
opaque Config.aneMagic : Byte

/-- `LXA_MAGIC` (R9, D14): the chip-dependent constant of LXA, OPEN (assumption 4). -/
opaque Config.lxaMagic : Byte

/-- `OPEN_BUS` (R9, D11): what an unmapped address reads as, a function of the bus's state and the address,
OPEN (spec/20_memory.md R103, assumption 5). The default bus, `Config.bus` of Machine/Bus, never reaches it. -/
opaque Config.openBus : BusState → Addr → Byte

/-- The high byte of every stack address (R9; spec/20_memory.md R112). -/
def Config.stackPage : Byte := 0x01#8

end Sys2Proof
end

