-- ==== Sys2Proof/Machine/State.lean ====
section
/-! DEFINITION. The state of the core and its bus (spec/10_state.md R50), the reasons a step can stop,
and the state right after reset. -/

namespace Sys2Proof.Machine

/-- The seven named flags (R56). U is no storage (R65); the packed byte exists only where it is pushed,
pulled or read by the driver (R57). -/
structure Flags where
  /-- carry (R58) -/
  c : Bool
  /-- zero (R59) -/
  z : Bool
  /-- interrupt disable (R60) -/
  i : Bool
  /-- decimal mode (R61) -/
  d : Bool
  /-- break (R64): stored as 0 from reset on, see `State.Inv` in Safety -/
  b : Bool
  /-- overflow (R62) -/
  v : Bool
  /-- negative (R63) -/
  n : Bool
  deriving DecidableEq, Repr

/-- The run state between two driver calls (R69). -/
inductive RunState where
  | running
  | jammed
  deriving DecidableEq, Repr

/-- The backing store of the default bus (R73): the bytes that differ from `Memory.unlisted`, addresses
strictly rising. -/
abbrev Memory := List Host.Cell

/-- What an address that is not listed reads as. POWERON_MEM is OPEN (spec/00_scope.md R9); this is the
spec's reference value for tests (DESIGN CHOICE, assumption 2). -/
def Memory.unlisted : Byte := 0x00#8

/-- The canonical form of a memory: addresses below 64 KiB, strictly rising, and no entry that says what
an unlisted address says anyway. Equal memories are then equal lists. -/
abbrev Memory.wf (m : Memory) : Prop :=
  m.Pairwise (fun p q => p.1 < q.1) ∧ ∀ c ∈ m, c.1 < 65536 ∧ c.2 ≠ Memory.unlisted

/-- The complete state (R50), and `resetDone`, which is the model's own. -/
structure State where
  /-- accumulator (R51) -/
  a : Byte
  /-- index register X (R52) -/
  x : Byte
  /-- index register Y (R53) -/
  y : Byte
  /-- stack pointer (R54) -/
  sp : Byte
  /-- program counter (R55) -/
  pc : Addr
  /-- the flags (R56) -/
  flags : Flags
  /-- I_poll, what the next boundary's IRQ check looks at (R66) -/
  iPoll : Bool
  /-- the latch of a non-maskable request (R67) -/
  nmiPending : Bool
  /-- the latch of a maskable request (R68) -/
  irqPending : Bool
  /-- the run state (R69) -/
  run : RunState
  /-- the running cycle counter (R70) -/
  cycles : CycleCount
  /-- the bus's backing store (R73) -/
  mem : Memory
  /-- the internal state of the bus's mapped devices (R73): the default bus has none and never reads or writes
  it (assumption 5) -/
  devices : List Nat
  /-- `reset()` has been called since power-on: before it a step is refused (spec/70_reset_and_hazards.md
  R703). The model's own field (assumption 3). -/
  resetDone : Bool
  deriving DecidableEq, Repr

/-- The faults of the machine: none. The core raises no synchronous exception and every opcode and every
address has a defined outcome (spec/60_exceptions.md R600). -/
inductive Fault where
  deriving DecidableEq, Repr

/-- Why a step has no meaning. -/
inductive Refusal where
  /-- An instruction without a meaning: raised by `exec`'s arm for it, of which there is none. Safe. -/
  | notModelled (mnemonic : String)
  /-- A step before the first `reset()`, raised by `step`: the spec refuses it
  (spec/70_reset_and_hazards.md R703, D17). Safe. -/
  | stepBeforeReset
  deriving DecidableEq, Repr

/-- What a step answers. -/
abbrev Result := Host.Outcome State Fault Refusal

/-- The machine right after power-on and `reset()` (spec/70_reset_and_hazards.md R701, 10_state.md
section 10). A, X and Y are unchanged by reset: they hold the power-on values, which the spec leaves OPEN
(0x00, DESIGN CHOICE, assumption 1). Memory lists nothing (assumption 2), so the reset vector reads
0x0000; there is no device, so no device has a state (assumption 5). That this is what `Driver.reset` gives from
power-on is `reset_eq_driver_reset` in Laws/Ops. -/
def State.reset : State where
  a := 0x00#8
  x := 0x00#8
  y := 0x00#8
  sp := 0xFD#8
  pc := 0x0000#16
  flags := { c := false, z := false, i := true, d := false, b := false, v := false, n := false }
  iPoll := true
  nmiPending := false
  irqPending := false
  run := .running
  cycles := 7#64
  mem := []
  devices := []
  resetDone := true

end Sys2Proof.Machine
end

