-- ==== Sys2Proof/Machine/Bus.lean ====
section
/-! DEFINITION. The bus (spec/20_memory.md R101 to R106): the backing store, the RAM that is the default
device, the default bus, and the two operations, over any bus. The core knows a bus by these two alone
(R106). -/

namespace Sys2Proof.Machine

/-! ## The backing store -/

/-- The byte a store holds at an address: the listed one, or what an unlisted address reads as. -/
def Memory.read : Memory → Nat → Byte
  | [], _ => Memory.unlisted
  | (k, v) :: rest, a => if k = a then v else Memory.read rest a

/-- Put a cell before the first cell with a greater address. -/
def Memory.insertCell (a : Nat) (v : Byte) : Memory → Memory
  | [] => [(a, v)]
  | (k, w) :: rest => if a < k then (a, v) :: (k, w) :: rest else (k, w) :: Memory.insertCell a v rest

/-- `mem[a] <- v` (R102), keeping the canonical form: writing what an unlisted address reads as removes
the entry. -/
def Memory.write (m : Memory) (a : Nat) (v : Byte) : Memory :=
  let others := m.filter (fun cell => cell.1 != a)
  if v = Memory.unlisted then others else Memory.insertCell a v others

/-- RAM (R102): a read changes nothing, a write changes the byte and nothing else. -/
def ram : Device where
  read a b := (Memory.read b.mem a.toNat, b)
  write a v b := { b with mem := Memory.write b.mem a.toNat v }

end Sys2Proof.Machine

namespace Sys2Proof

/-- `BUS` (spec/00_scope.md R9, D11), of this hardware: the default bus, RAM at every address (R102). -/
def Config.bus : Bus where
  route _ := some Machine.ram

end Sys2Proof

namespace Sys2Proof.Machine

/-! ## The two operations -/

/-- `read(address)` (R101, R105): total, a transaction that may update the bus's state. An unmapped address
gives OPEN_BUS and updates nothing (R103). -/
def busRead (bus : Bus) (b : BusState) (a : Addr) : Byte × BusState :=
  match bus.route a with
  | some device => device.read a b
  | none => (Config.openBus b a, b)

/-- `write(address, byte)` (R101, R105): the device's own write. A write to an unmapped address changes
nothing (R104). -/
def busWrite (bus : Bus) (b : BusState) (a : Addr) (v : Byte) : BusState :=
  match bus.route a with
  | some device => device.write a v b
  | none => b

/-- The bus's part of the state (spec/10_state.md R50, R73). -/
def State.bus (s : State) : BusState := { mem := s.mem, devices := s.devices }

/-- The state with another bus state. -/
def State.withBus (s : State) (b : BusState) : State := { s with mem := b.mem, devices := b.devices }

/-- `MemRead(a, 1)` on a bus (spec/00_scope.md R12): the byte, and the state after the transaction. -/
def State.readOn (bus : Bus) (s : State) (a : Addr) : Byte × State :=
  let r := busRead bus s.bus a
  (r.1, s.withBus r.2)

/-- `MemWrite(a, 1, v)` on a bus (spec/00_scope.md R12). -/
def State.writeOn (bus : Bus) (s : State) (a : Addr) (v : Byte) : State := s.withBus (busWrite bus s.bus a v)

/-- `n` bytes from an address on, in address order, wrapping at the top (R118, D16). -/
def State.readRunOn (bus : Bus) (s : State) (a : Addr) : Nat → List Byte × State
  | 0 => ([], s)
  | n + 1 =>
    let first := s.readOn bus a
    let rest := State.readRunOn bus first.2 (a + 1#16) n
    (first.1 :: rest.1, rest.2)

/-- The byte that `MemRead(a, 1)` gives on the default bus. -/
def State.read (s : State) (a : Addr) : Byte := (s.readOn Config.bus a).1

/-- `MemWrite(a, 1, v)` on the default bus. -/
def State.write (s : State) (a : Addr) (v : Byte) : State := s.writeOn Config.bus a v

end Sys2Proof.Machine
end

