-- ==== Sys2Proof/Machine/Flags.lean ====
section
/-! DEFINITION. The flags: packing them into the status byte (spec/10_state.md R57), and every flag
computation of the ALU (spec/40_execution.md R225 to R232, spec/47_undocumented.md R558 to R563).
Sums are computed on unbounded numbers and narrowed at the end (spec/00_scope.md R11). -/

namespace Sys2Proof.Machine

/-! ## The packed status byte -/

/-- One bit as a byte's bit. -/
def bitAt (b : Bool) (k : Nat) : Byte := BitVec.ofNat 8 (b.toNat * 2 ^ k)

/-- `PackP(b)` (R57): N V 1 b D I Z C. -/
def Flags.pack (f : Flags) (b : Bool) : Byte :=
  bitAt f.n 7 ||| bitAt f.v 6 ||| bitAt true 5 ||| bitAt b 4
    ||| bitAt f.d 3 ||| bitAt f.i 2 ||| bitAt f.z 1 ||| bitAt f.c 0

/-- `UnpackP(v)` (R57): bits 4 and 5 are ignored and the stored B becomes 0 (R64, R65). -/
def Flags.unpack (v : Byte) : Flags where
  c := v.getLsbD 0
  z := v.getLsbD 1
  i := v.getLsbD 2
  d := v.getLsbD 3
  b := false
  v := v.getLsbD 6
  n := v.getLsbD 7

/-! ## N and Z -/

/-- `SetNZ(v)` (R225). -/
def Flags.setNZ (f : Flags) (v : Byte) : Flags := { f with z := v == 0#8, n := v.msb }

/-! ## Add and subtract -/

/-- What an add or a subtract gives: the byte for A, and the four flags it writes. -/
structure ArithResult where
  value : Byte
  n : Bool
  v : Bool
  z : Bool
  c : Bool
  deriving DecidableEq, Repr

/-- The four flags of an add or a subtract, written over the others. -/
def Flags.setArith (f : Flags) (r : ArithResult) : Flags := { f with n := r.n, v := r.v, z := r.z, c := r.c }

/-- Bit 7 of `~(a0 ^ m) & (a0 ^ t)` (R226, R227): the operands have one sign and the sum the other. -/
def addOverflows (a0 m t : Byte) : Bool := (~~~(a0 ^^^ m) &&& (a0 ^^^ t)).msb

/-- Bit 7 of `(a0 ^ m) & (a0 ^ t)` (R228, R229): signed overflow of a difference. -/
def subOverflows (a0 m t : Byte) : Bool := ((a0 ^^^ m) &&& (a0 ^^^ t)).msb

/-- `AddBinary` (R226). -/
def addBinary (a0 m : Byte) (carry : Bool) : ArithResult :=
  let t := a0.toNat + m.toNat + carry.toNat
  let r := BitVec.ofNat 8 t
  { value := r, n := r.msb, v := addOverflows a0 m r, z := r == 0#8, c := decide (0xFF < t) }

/-- `SubBinary` (R228): the borrow is `1 - carry`. -/
def subBinary (a0 m : Byte) (carry : Bool) : ArithResult :=
  let t := a0.toNat + (~~~m).toNat + carry.toNat
  let r := BitVec.ofNat 8 t
  { value := r, n := r.msb, v := subOverflows a0 m r, z := r == 0#8, c := decide (0xFF < t) }

/-- The low digit of a decimal sum, with its carry into the high digit (R227). -/
def addLowDigit (a0 m : Byte) (carry : Bool) : Nat :=
  let lo := a0.toNat % 16 + m.toNat % 16 + carry.toNat
  if 0x0A ≤ lo then (lo + 0x06) % 16 + 0x10 else lo

/-- The decimal sum before the high digit is adjusted, from which N and V are taken (R227). -/
def addDecimalSum (a0 m : Byte) (carry : Bool) : Nat :=
  a0.toNat / 16 * 16 + m.toNat / 16 * 16 + addLowDigit a0 m carry

/-- `AddDecimal` (R227), the NMOS form: Z follows the binary sum, N and V the sum before the adjustment. -/
def addDecimal (a0 m : Byte) (carry : Bool) : ArithResult :=
  let t := addDecimalSum a0 m carry
  let adjusted := if 0xA0 ≤ t then t + 0x60 else t
  { value := BitVec.ofNat 8 adjusted
    n := (BitVec.ofNat 8 t).msb
    v := addOverflows a0 m (BitVec.ofNat 8 t)
    z := (addBinary a0 m carry).z
    c := decide (0x100 ≤ adjusted) }

/-- The low digit of a decimal difference, with its borrow from the high digit (R229). -/
def subLowDigit (a0 m : Byte) (carry : Bool) : Int :=
  let lo : Int := (a0.toNat % 16 : Nat) - (m.toNat % 16 : Nat) + (carry.toNat : Nat) - 1
  if lo < 0 then (lo - 0x06) % 16 - 0x10 else lo

/-- `SubDecimal` (R229), the NMOS form: the flags of the binary difference, only A is adjusted. -/
def subDecimal (a0 m : Byte) (carry : Bool) : ArithResult :=
  let r : Int := (a0.toNat / 16 * 16 : Nat) - (m.toNat / 16 * 16 : Nat) + subLowDigit a0 m carry
  let adjusted := if r < 0 then r - 0x60 else r
  { subBinary a0 m carry with value := BitVec.ofInt 8 adjusted }

/-- `Add` (R230): decimal when the machine has a decimal adder and D is 1. -/
def addWith (decimalEnabled d : Bool) (a0 m : Byte) (carry : Bool) : ArithResult :=
  if d && decimalEnabled then addDecimal a0 m carry else addBinary a0 m carry

/-- `Sub` (R230). -/
def subWith (decimalEnabled d : Bool) (a0 m : Byte) (carry : Bool) : ArithResult :=
  if d && decimalEnabled then subDecimal a0 m carry else subBinary a0 m carry

/-! ## Compare -/

/-- `Compare(R, M)` (R231): C, and N and Z of the 8-bit difference. -/
def Flags.compare (f : Flags) (r m : Byte) : Flags := { f.setNZ (r - m) with c := decide (m.toNat ≤ r.toNat) }

/-! ## Shifts and rotates (R232): the result and the flags -/

/-- `ShiftLeft` (R232). -/
def shiftLeft (v : Byte) (f : Flags) : Byte × Flags :=
  let r := v <<< 1
  (r, { f.setNZ r with c := v.getLsbD 7 })

/-- `ShiftRight` (R232). -/
def shiftRight (v : Byte) (f : Flags) : Byte × Flags :=
  let r := v >>> 1
  (r, { f.setNZ r with c := v.getLsbD 0 })

/-- `RotateLeft` (R232): the old carry becomes bit 0. -/
def rotateLeft (v : Byte) (f : Flags) : Byte × Flags :=
  let r := (v <<< 1) ||| bitAt f.c 0
  (r, { f.setNZ r with c := v.getLsbD 7 })

/-- `RotateRight` (R232): the old carry becomes bit 7. -/
def rotateRight (v : Byte) (f : Flags) : Byte × Flags :=
  let r := (v >>> 1) ||| bitAt f.c 7
  (r, { f.setNZ r with c := v.getLsbD 0 })

/-- The result of INC and its flags (spec/42_arith_logic.md R309). -/
def increment (v : Byte) (f : Flags) : Byte × Flags := (v + 1#8, f.setNZ (v + 1#8))

/-- The result of DEC and its flags (spec/42_arith_logic.md R310). -/
def decrement (v : Byte) (f : Flags) : Byte × Flags := (v - 1#8, f.setNZ (v - 1#8))

/-- The increment of ISC, which leaves the flags to its subtract (spec/47_undocumented.md R557). -/
def incrementOnly (v : Byte) (f : Flags) : Byte × Flags := (v + 1#8, f)

/-- The decrement of DCP, which leaves the flags to its compare (spec/47_undocumented.md R556). -/
def decrementOnly (v : Byte) (f : Flags) : Byte × Flags := (v - 1#8, f)

/-! ## ARR (spec/47_undocumented.md R560) -/

/-- `(t >> 1) | (C << 7)` with `t = A & M`: what ARR rotates. -/
def arrRotated (a m : Byte) (carry : Bool) : Byte := ((a &&& m) >>> 1) ||| bitAt carry 7

/-- ARR, binary form. -/
def arrBinary (a m : Byte) (f : Flags) : Byte × Flags :=
  let r := arrRotated a m f.c
  (r, { f.setNZ r with c := r.getLsbD 6, v := r.getLsbD 6 ^^ r.getLsbD 5 })

/-- ARR's decimal adjustment of the low digit: `t` is `A & M`, `r` the rotated byte. -/
def arrFixLow (t r : Byte) : Byte :=
  let d := t.toNat % 16
  if 5 < d + d % 2 then (r &&& 0xF0#8) ||| ((r + 6#8) &&& 0x0F#8) else r

/-- ARR, decimal form: N and Z are those of the rotated byte, before the adjustment. -/
def arrDecimal (a m : Byte) (f : Flags) : Byte × Flags :=
  let t := a &&& m
  let r := arrRotated a m f.c
  let low := arrFixLow t r
  let d := t.toNat / 16
  let carry := decide (5 < d + d % 2)
  let result := if carry then low + 0x60#8 else low
  (result, { f with n := f.c, z := r == 0#8, v := (t ^^^ r).getLsbD 6, c := carry })

/-- ARR: decimal when the machine has a decimal adder and D is 1. -/
def arrWith (decimalEnabled : Bool) (a m : Byte) (f : Flags) : Byte × Flags :=
  if f.d && decimalEnabled then arrDecimal a m f else arrBinary a m f

end Sys2Proof.Machine
end

