-- ==== Sys2Proof/Machine/Ops.lean ====
section
/-! DEFINITION. The named operations over memory and registers: 16-bit reads (spec/20_memory.md R107 to R109),
the stack (R112 to R114), and taking an interrupt and returning from one (spec/60_exceptions.md R605, R608).
Each is written once over any bus (the name ends in On) and passes on the state that its accesses leave;
the name without On is the same on the default bus. -/

namespace Sys2Proof.Machine

/-! ## 16-bit reads -/

/-- Two reads, the low byte first (R107). -/
def State.readPairOn (bus : Bus) (s : State) (lowAt highAt : Addr) : Addr × State :=
  let low := s.readOn bus lowAt
  let high := low.2.readOn bus highAt
  (word16 low.1 high.1, high.2)

/-- `Read16(a)` (R107): the high byte at `wrap16(a + 1)`. -/
def State.read16On (bus : Bus) (s : State) (a : Addr) : Addr × State := s.readPairOn bus a (a + 1#16)

/-- A byte as an address of the zero page: `zext_16` (spec/30_encoding.md R152). -/
def zeroPage (z : Byte) : Addr := word16 z 0x00#8

/-- `ReadZP16(z)` (R108): a pointer in the zero page, wrapping inside it. -/
def State.readZp16On (bus : Bus) (s : State) (z : Byte) : Addr × State :=
  s.readPairOn bus (zeroPage z) (zeroPage (z + 1#8))

/-- Where `ReadJmpInd(p)` finds the high byte (R109): in the pointer's own page. -/
def jumpHighAt (p : Addr) : Addr := word16 (lowByte p + 1#8) (highByte p)

/-- `ReadJmpInd(p)` (R109). -/
def State.readJmpIndOn (bus : Bus) (s : State) (p : Addr) : Addr × State := s.readPairOn bus p (jumpHighAt p)

def State.read16 (s : State) (a : Addr) : Addr := (s.read16On Config.bus a).1
def State.readZp16 (s : State) (z : Byte) : Addr := (s.readZp16On Config.bus z).1
def State.readJmpInd (s : State) (p : Addr) : Addr := (s.readJmpIndOn Config.bus p).1

/-! ## The stack -/

/-- The address `0x0100 | SP` (R112, R54). -/
def stackAddr (sp : Byte) : Addr := word16 sp Config.stackPage

/-- `Push(v)` (R112): write, then decrement; SP wraps in the page (R114). -/
def State.pushOn (bus : Bus) (s : State) (v : Byte) : State :=
  let t := s.writeOn bus (stackAddr s.sp) v
  { t with sp := t.sp - 1#8 }

/-- `Pull()` (R113): increment, then read. -/
def State.pullOn (bus : Bus) (s : State) : Byte × State :=
  { s with sp := s.sp + 1#8 }.readOn bus (stackAddr (s.sp + 1#8))

/-- Push a 16-bit value, high byte first (R110). -/
def State.push16On (bus : Bus) (s : State) (a : Addr) : State :=
  (s.pushOn bus (highByte a)).pushOn bus (lowByte a)

/-- Pull a 16-bit value, low byte first (spec/44_control_flow.md R412, 45 R463). -/
def State.pull16On (bus : Bus) (s : State) : Addr × State :=
  let low := s.pullOn bus
  let high := low.2.pullOn bus
  (word16 low.1 high.1, high.2)

def State.push (s : State) (v : Byte) : State := s.pushOn Config.bus v
def State.push16 (s : State) (a : Addr) : State := s.push16On Config.bus a
def State.pulled (s : State) : Byte := (s.pullOn Config.bus).1
def State.afterPull (s : State) : State := (s.pullOn Config.bus).2
def State.pulled16 (s : State) : Addr := (s.pull16On Config.bus).1

/-! ## Taking an interrupt and returning from one -/

/-- The NMI vector (spec/60_exceptions.md R606). -/
def nmiVector : Addr := 0xFFFA#16

/-- The reset vector (R606). -/
def resetVector : Addr := 0xFFFC#16

/-- The vector of IRQ and BRK (R606). -/
def irqVector : Addr := 0xFFFE#16

/-- The entry sequence (R605): push PC, high byte first, then the status byte with bit 4 as given; set I
and I_poll; load PC from the vector. NMI and IRQ push bit 4 as 0, BRK as 1 (R601). -/
def interruptEntryOn (bus : Bus) (breakBit : Bool) (vector : Addr) (s : State) : State :=
  let pushed := (s.push16On bus s.pc).pushOn bus (s.flags.pack breakBit)
  let target := pushed.read16On bus vector
  { target.2 with
    flags := { target.2.flags with i := true }
    iPoll := true
    pc := target.1 }

/-- The return (R608, spec/45_stack_flag_system.md R463): pull the flags, then PC low and high. -/
def returnFromInterruptOn (bus : Bus) (s : State) : State :=
  let status := s.pullOn bus
  let target := status.2.pull16On bus
  { target.2 with flags := Flags.unpack status.1, pc := target.1 }

def interruptEntry (breakBit : Bool) (vector : Addr) (s : State) : State :=
  interruptEntryOn Config.bus breakBit vector s

end Sys2Proof.Machine
end

