-- ==== Sys2Proof/Machine/Boundary.lean ====
section
/-! DEFINITION. What happens at a step boundary (spec/40_execution.md R200, spec/60_exceptions.md R604): which
of its kinds a step is, the two interrupt services, the fetch of an instruction, and the driver's write
to the backing store, which places a program (spec/70_reset_and_hazards.md R704). -/

namespace Sys2Proof.Machine

/-- The kinds of a step (R604), and the step the spec refuses (spec/70_reset_and_hazards.md R703). -/
inductive StepKind where
  | beforeReset
  | jammed
  | nmi
  | irq
  | instruction
  deriving DecidableEq, Repr

/-- The first of R604's list that applies. -/
def stepKind (s : State) : StepKind :=
  if !s.resetDone then .beforeReset
  else if s.run = .jammed then .jammed
  else if s.nmiPending then .nmi
  else if s.irqPending && !s.iPoll then .irq
  else .instruction

/-- The cycles of an interrupt entry (R605). -/
def entryCycles : Nat := 7

/-- The NMI service on a bus (R200): clear the latch, enter, 7 cycles. -/
def serviceNmiOn (bus : Bus) (s : State) : State :=
  let t := interruptEntryOn bus false nmiVector { s with nmiPending := false }
  { t with cycles := t.cycles + BitVec.ofNat 64 entryCycles }

/-- The IRQ service on a bus (R200): clear the latch, enter, 7 cycles. -/
def serviceIrqOn (bus : Bus) (s : State) : State :=
  let t := interruptEntryOn bus false irqVector { s with irqPending := false }
  { t with cycles := t.cycles + BitVec.ofNat 64 entryCycles }

def serviceNmi (s : State) : State := serviceNmiOn Config.bus s
def serviceIrq (s : State) : State := serviceIrqOn Config.bus s

/-- The fetch on a bus (R201 to R204): the opcode, then as many operand bytes as the descriptor's mode has, in
address order and no others (spec/20_memory.md R118). PC is moved by the instruction. -/
def fetchOn (bus : Bus) (s : State) : Instr × State :=
  let opcode := s.readOn bus s.pc
  let operand := opcode.2.readRunOn bus (s.pc + 1#16) ((descriptor opcode.1).mode.length - 1)
  (decodeAt (byteOf (opcode.1 :: operand.1)), operand.2)

/-- The instruction at PC on the default bus. -/
def fetchInstr (s : State) : Instr := (fetchOn Config.bus s).1

/-- Write bytes to the backing store from an address on, as the driver does (R704): no bus access. -/
def State.loadBytes (s : State) (a : Addr) : List Byte → State
  | [] => s
  | v :: rest => State.loadBytes { s with mem := s.mem.write a.toNat v } (a + 1#16) rest

end Sys2Proof.Machine
end

