-- ==== Sys2Proof/Machine/Operands.lean ====
section
/-! DEFINITION. The addressing-mode resolver (spec/40_execution.md R203 to R217). Everything here looks at
the state after the instruction's bytes have been fetched, with PC at the byte after the instruction. -/

namespace Sys2Proof.Machine

/-- PC moves past `n` bytes, wrapping at the top (R204, D16). -/
def State.advance (s : State) (n : Nat) : State := { s with pc := s.pc + BitVec.ofNat 16 n }

/-- The two addresses lie in different pages (R203). -/
def otherPage (p q : Addr) : Bool := highByte p != highByte q

/-! ## The Addressing Mode Result -/

/-- `(ea, crossed, H)` (R203, spec/10_state.md R72): transient, no state. -/
structure Resolved where
  ea : Option Addr
  crossed : Bool
  high : Option Byte
  deriving DecidableEq, Repr

/-- The effective address. Only the implied and accumulator modes have none, and no effect of theirs asks
(R205, R206). -/
def Resolved.addr (r : Resolved) : Addr := r.ea.getD 0#16

/-- `H`. Only the unstable stores ask, and their three modes have it (R203). -/
def Resolved.baseHigh (r : Resolved) : Byte := r.high.getD 0#8

/-- The result of a mode that neither crosses a page nor has an H. -/
def Resolved.at (ea : Addr) : Resolved := { ea := some ea, crossed := false, high := none }

/-- `wrap16(base + index)`, the page comparison and H (R213). -/
def Resolved.indexed (base : Addr) (index : Byte) : Resolved :=
  let ea := base + zeroPage index
  { ea := some ea, crossed := otherPage ea base, high := some (highByte base) }

/-- `wrap16(PC_next + rel8)` (R211). -/
def branchTarget (disp : Int) (s : State) : Addr := s.pc + BitVec.ofInt 16 disp

/-- `Resolve(mode)` (R205 to R217): the pointer reads of the mode, and its result. -/
def resolveOn (bus : Bus) (o : Operand) (s : State) : Resolved × State :=
  match o with
  | .implied => ({ ea := none, crossed := false, high := none }, s)
  | .accumulator => ({ ea := none, crossed := false, high := none }, s)
  | .immediate _ => (.at (s.pc - 1#16), s)
  | .relative disp =>
    let ea := branchTarget disp s
    ({ ea := some ea, crossed := otherPage ea s.pc, high := none }, s)
  | .indirect ptr =>
    let target := s.readJmpIndOn bus ptr
    (.at target.1, target.2)
  | .memory (.zeropage zp) => (.at (zeroPage zp), s)
  | .memory (.zeropageX zp) => (.at (zeroPage (zp + s.x)), s)
  | .memory (.zeropageY zp) => (.at (zeroPage (zp + s.y)), s)
  | .memory (.absolute addr) => (.at addr, s)
  | .memory (.indirectX zp) =>
    let pointer := s.readZp16On bus (zp + s.x)
    (.at pointer.1, pointer.2)
  | .memory (.indexed (.absoluteX addr)) => (.indexed addr s.x, s)
  | .memory (.indexed (.absoluteY addr)) => (.indexed addr s.y, s)
  | .memory (.indexed (.indirectY zp)) =>
    let pointer := s.readZp16On bus zp
    (.indexed pointer.1 s.y, pointer.2)

/-- The Addressing Mode Result on the default bus. -/
def resolve (o : Operand) (s : State) : Resolved := (resolveOn Config.bus o s).1

/-- The effective address of a memory operand on the default bus. -/
def effectiveAddr (m : MemOperand) (s : State) : Addr := (resolve (.memory m) s).addr

end Sys2Proof.Machine
end

