-- ==== Sys2Proof/Machine/Shapes.lean ====
section
/-! DEFINITION. The shapes of an instruction step: what every instruction does around its own effect
(spec/40_execution.md R200, R219, R221), and one effect per access class
(R218). Each is written over any bus; the forms, which the meanings call, are on the default bus. -/

namespace Sys2Proof.Machine

/-- The opcodes whose change of I reaches the IRQ check one step late: PLP, CLI, SEI (spec/10_state.md R66). -/
def delaysMask (opcode : Byte) : Bool := opcode == 0x28#8 || opcode == 0x58#8 || opcode == 0x78#8

/-- The cycles of an instruction step (R219): the base, one more where the opcode takes the page-cross
penalty and the index crossed a page, and a branch's extra. -/
def cycleCount (opcode : Byte) (crossed : Bool) (extra : Nat) : Nat :=
  (descriptor opcode).base + (if (descriptor opcode).penalty && crossed then 1 else 0) + extra

/-- The end of an instruction step (R200): I_poll and the cycle counter. `iBefore` is I before the step. -/
def finish (opcode : Byte) (iBefore crossed : Bool) (extra : Nat) (s : State) : State :=
  { s with
    iPoll := if delaysMask opcode then iBefore else s.flags.i
    cycles := s.cycles + BitVec.ofNat 64 (cycleCount opcode crossed extra) }

/-- The effect of an instruction on a bus (R200's Execute): from the Addressing Mode Result and the state after
the fetches and the pointer reads, the state after the effect and the extra cycles it took. -/
abbrev Effect := Bus → Resolved → State → State × Nat

/-- An instruction step on a bus (R200), from the state whose PC is at the opcode: the fetches move PC past the
instruction, the operand is resolved, the effect runs, and the step ends. -/
def instructionOn (bus : Bus) (opcode : Byte) (o : Operand) (effect : Effect) (s : State) : State :=
  let located := resolveOn bus o (s.advance o.mode.length)
  let done := effect bus located.1 located.2
  finish opcode s.flags.i located.1.crossed done.2 done.1

/-- An instruction step on the default bus. -/
def instruction (opcode : Byte) (o : Operand) (effect : Effect) (s : State) : Result :=
  .next (instructionOn Config.bus opcode o effect s)

/-! ## The effects of the access classes -/

/-- Register class: no data access (R218). -/
def plainEffect (f : State → State) : Effect := fun _ _ s => (f s, 0)

/-- Stack and control class: the pushes, pulls and vector reads of the rule (R218). -/
def stackEffect (f : Bus → State → State) : Effect := fun bus _ s => (f bus s, 0)

/-- Read class, immediate mode: the operand's fetch is the data read (R207, R218). -/
def immEffect (v : Byte) (f : Byte → State → State) : Effect := plainEffect (f v)

/-- Read class: one data read at the effective address (R218). -/
def readEffect (f : Byte → State → State) : Effect := fun bus r s =>
  let m := s.readOn bus r.addr
  (f m.1 m.2, 0)

/-- Store class: one write at the effective address, no read (R218). -/
def storeEffect (src : State → Byte) : Effect := fun bus r s => (s.writeOn bus r.addr (src s), 0)

/-- Read-modify-write class (R218): read, compute the result and the flags, write once, then do what the
instruction does with the result. -/
def rmwEffect (compute : Byte → Flags → Byte × Flags) (after : Byte → State → State) : Effect := fun bus r s =>
  let m := s.readOn bus r.addr
  let c := compute m.1 m.2.flags
  (after c.1 ({ m.2 with flags := c.2 }.writeOn bus r.addr c.1), 0)

/-- A read-modify-write that does nothing more with its result. -/
def keepResult (_ : Byte) (s : State) : State := s

/-- A shift or rotate of A (R206, R218). -/
def accEffect (compute : Byte → Flags → Byte × Flags) : Effect :=
  plainEffect fun s =>
    let c := compute s.a s.flags
    { s with a := c.1, flags := c.2 }

/-- `PC <- ea` (spec/44_control_flow.md R400, R409). -/
def jumpTo (target : Addr) (s : State) : State := { s with pc := target }

/-- `Branch(cond)` (spec/44_control_flow.md R400). -/
def branchEffect (cond : Flags → Bool) : Effect := fun _ r s =>
  if cond s.flags then (jumpTo r.addr s, if r.crossed then 2 else 1) else (s, 0)

/-- What an instruction does with its effective address as a target (spec/44_control_flow.md R409 to R411). -/
def jumpEffect (f : Bus → Addr → State → State) : Effect := fun bus r s => (f bus r.addr s, 0)

/-- The byte an unstable store writes (spec/47_undocumented.md R566). -/
def unstableValue (src : Byte) (r : Resolved) : Byte := src &&& (r.baseHigh + 1#8)

/-- Where an unstable store writes: on a page crossing the value replaces the address's high byte (R566). -/
def unstableAddr (src : Byte) (r : Resolved) : Addr :=
  if r.crossed then word16 (lowByte r.addr) (unstableValue src r) else r.addr

/-- The common rule of SHA, SHX, SHY and TAS (R566). `before` is what TAS does first. -/
def unstableEffect (before : State → State) (src : State → Byte) : Effect := fun bus r s =>
  let t := before s
  (t.writeOn bus (unstableAddr (src t) r) (unstableValue (src t) r), 0)

/-- An unstable store that does nothing first. -/
def nothingFirst (s : State) : State := s

/-! ## The forms the meanings call -/

def plainForm (opcode : Byte) (o : Operand) (f : State → State) : State → Result :=
  instruction opcode o (plainEffect f)

def stackForm (opcode : Byte) (f : Bus → State → State) : State → Result :=
  instruction opcode .implied (stackEffect f)

def immForm (opcode v : Byte) (f : Byte → State → State) : State → Result :=
  instruction opcode (.immediate v) (immEffect v f)

def readForm (opcode : Byte) (m : MemOperand) (f : Byte → State → State) : State → Result :=
  instruction opcode (.memory m) (readEffect f)

def storeForm (opcode : Byte) (m : MemOperand) (src : State → Byte) : State → Result :=
  instruction opcode (.memory m) (storeEffect src)

def rmwForm (opcode : Byte) (m : MemOperand) (compute : Byte → Flags → Byte × Flags)
    (after : Byte → State → State) : State → Result :=
  instruction opcode (.memory m) (rmwEffect compute after)

def accForm (opcode : Byte) (compute : Byte → Flags → Byte × Flags) : State → Result :=
  instruction opcode .accumulator (accEffect compute)

def branchForm (opcode : Byte) (disp : Int) (cond : Flags → Bool) : State → Result :=
  instruction opcode (.relative disp) (branchEffect cond)

def jumpForm (opcode : Byte) (o : Operand) (f : Bus → Addr → State → State) : State → Result :=
  instruction opcode o (jumpEffect f)

def unstableStoreForm (opcode : Byte) (ix : Indexed) (before : State → State) (src : State → Byte) :
    State → Result :=
  instruction opcode (.memory (.indexed ix)) (unstableEffect before src)

end Sys2Proof.Machine
end

