-- ==== Sys2Proof/Machine/LoadStore.lean ====
section
/-! DEFINITION. Loads, stores and register transfers (spec/41_load_store_transfer.md R250 to R261). -/

namespace Sys2Proof.Machine

/-- `A <- M; SetNZ(A)` (R250). -/
def loadA (m : Byte) (s : State) : State := { s with a := m, flags := s.flags.setNZ m }

/-- `X <- M; SetNZ(X)` (R251). -/
def loadX (m : Byte) (s : State) : State := { s with x := m, flags := s.flags.setNZ m }

/-- `Y <- M; SetNZ(Y)` (R252). -/
def loadY (m : Byte) (s : State) : State := { s with y := m, flags := s.flags.setNZ m }

/-- `X <- A; SetNZ(X)` (R256). -/
def transferAX (s : State) : State := loadX s.a s

/-- `Y <- A; SetNZ(Y)` (R257). -/
def transferAY (s : State) : State := loadY s.a s

/-- `A <- X; SetNZ(A)` (R258). -/
def transferXA (s : State) : State := loadA s.x s

/-- `A <- Y; SetNZ(A)` (R259). -/
def transferYA (s : State) : State := loadA s.y s

/-- `X <- SP; SetNZ(X)` (R260). -/
def transferSX (s : State) : State := loadX s.sp s

/-- `SP <- X`, and no flag (R261). -/
def transferXS (s : State) : State := { s with sp := s.x }

/-! ## The instructions, one definition per opcode -/

/-- LDA 0xA1, indirect_x (R250). -/
def execLdaIndX (zp : Byte) (s : State) : Result :=
  readForm 0xA1#8 (.indirectX zp) loadA s

/-- LDA 0xA5, zeropage (R250). -/
def execLdaZp (zp : Byte) (s : State) : Result :=
  readForm 0xA5#8 (.zeropage zp) loadA s

/-- LDA 0xA9, immediate (R250). -/
def execLdaImm (v : Byte) (s : State) : Result :=
  immForm 0xA9#8 v loadA s

/-- LDA 0xAD, absolute (R250). -/
def execLdaAbs (addr : Addr) (s : State) : Result :=
  readForm 0xAD#8 (.absolute addr) loadA s

/-- LDA 0xB1, indirect_y (R250). -/
def execLdaIndY (zp : Byte) (s : State) : Result :=
  readForm 0xB1#8 (.indexed (.indirectY zp)) loadA s

/-- LDA 0xB5, zeropage_x (R250). -/
def execLdaZpX (zp : Byte) (s : State) : Result :=
  readForm 0xB5#8 (.zeropageX zp) loadA s

/-- LDA 0xB9, absolute_y (R250). -/
def execLdaAbsY (addr : Addr) (s : State) : Result :=
  readForm 0xB9#8 (.indexed (.absoluteY addr)) loadA s

/-- LDA 0xBD, absolute_x (R250). -/
def execLdaAbsX (addr : Addr) (s : State) : Result :=
  readForm 0xBD#8 (.indexed (.absoluteX addr)) loadA s

/-- LDX 0xA2, immediate (R251). -/
def execLdxImm (v : Byte) (s : State) : Result :=
  immForm 0xA2#8 v loadX s

/-- LDX 0xA6, zeropage (R251). -/
def execLdxZp (zp : Byte) (s : State) : Result :=
  readForm 0xA6#8 (.zeropage zp) loadX s

/-- LDX 0xAE, absolute (R251). -/
def execLdxAbs (addr : Addr) (s : State) : Result :=
  readForm 0xAE#8 (.absolute addr) loadX s

/-- LDX 0xB6, zeropage_y (R251). -/
def execLdxZpY (zp : Byte) (s : State) : Result :=
  readForm 0xB6#8 (.zeropageY zp) loadX s

/-- LDX 0xBE, absolute_y (R251). -/
def execLdxAbsY (addr : Addr) (s : State) : Result :=
  readForm 0xBE#8 (.indexed (.absoluteY addr)) loadX s

/-- LDY 0xA0, immediate (R252). -/
def execLdyImm (v : Byte) (s : State) : Result :=
  immForm 0xA0#8 v loadY s

/-- LDY 0xA4, zeropage (R252). -/
def execLdyZp (zp : Byte) (s : State) : Result :=
  readForm 0xA4#8 (.zeropage zp) loadY s

/-- LDY 0xAC, absolute (R252). -/
def execLdyAbs (addr : Addr) (s : State) : Result :=
  readForm 0xAC#8 (.absolute addr) loadY s

/-- LDY 0xB4, zeropage_x (R252). -/
def execLdyZpX (zp : Byte) (s : State) : Result :=
  readForm 0xB4#8 (.zeropageX zp) loadY s

/-- LDY 0xBC, absolute_x (R252). -/
def execLdyAbsX (addr : Addr) (s : State) : Result :=
  readForm 0xBC#8 (.indexed (.absoluteX addr)) loadY s

/-- STA 0x81, indirect_x (R253). -/
def execStaIndX (zp : Byte) (s : State) : Result :=
  storeForm 0x81#8 (.indirectX zp) State.a s

/-- STA 0x85, zeropage (R253). -/
def execStaZp (zp : Byte) (s : State) : Result :=
  storeForm 0x85#8 (.zeropage zp) State.a s

/-- STA 0x8D, absolute (R253). -/
def execStaAbs (addr : Addr) (s : State) : Result :=
  storeForm 0x8D#8 (.absolute addr) State.a s

/-- STA 0x91, indirect_y (R253). -/
def execStaIndY (zp : Byte) (s : State) : Result :=
  storeForm 0x91#8 (.indexed (.indirectY zp)) State.a s

/-- STA 0x95, zeropage_x (R253). -/
def execStaZpX (zp : Byte) (s : State) : Result :=
  storeForm 0x95#8 (.zeropageX zp) State.a s

/-- STA 0x99, absolute_y (R253). -/
def execStaAbsY (addr : Addr) (s : State) : Result :=
  storeForm 0x99#8 (.indexed (.absoluteY addr)) State.a s

/-- STA 0x9D, absolute_x (R253). -/
def execStaAbsX (addr : Addr) (s : State) : Result :=
  storeForm 0x9D#8 (.indexed (.absoluteX addr)) State.a s

/-- STX 0x86, zeropage (R254). -/
def execStxZp (zp : Byte) (s : State) : Result :=
  storeForm 0x86#8 (.zeropage zp) State.x s

/-- STX 0x8E, absolute (R254). -/
def execStxAbs (addr : Addr) (s : State) : Result :=
  storeForm 0x8E#8 (.absolute addr) State.x s

/-- STX 0x96, zeropage_y (R254). -/
def execStxZpY (zp : Byte) (s : State) : Result :=
  storeForm 0x96#8 (.zeropageY zp) State.x s

/-- STY 0x84, zeropage (R255). -/
def execStyZp (zp : Byte) (s : State) : Result :=
  storeForm 0x84#8 (.zeropage zp) State.y s

/-- STY 0x8C, absolute (R255). -/
def execStyAbs (addr : Addr) (s : State) : Result :=
  storeForm 0x8C#8 (.absolute addr) State.y s

/-- STY 0x94, zeropage_x (R255). -/
def execStyZpX (zp : Byte) (s : State) : Result :=
  storeForm 0x94#8 (.zeropageX zp) State.y s

/-- TAX 0xAA, implied (R256). -/
def execTax (s : State) : Result :=
  plainForm 0xAA#8 .implied transferAX s

/-- TAY 0xA8, implied (R257). -/
def execTay (s : State) : Result :=
  plainForm 0xA8#8 .implied transferAY s

/-- TXA 0x8A, implied (R258). -/
def execTxa (s : State) : Result :=
  plainForm 0x8A#8 .implied transferXA s

/-- TYA 0x98, implied (R259). -/
def execTya (s : State) : Result :=
  plainForm 0x98#8 .implied transferYA s

/-- TSX 0xBA, implied (R260). -/
def execTsx (s : State) : Result :=
  plainForm 0xBA#8 .implied transferSX s

/-- TXS 0x9A, implied (R261). -/
def execTxs (s : State) : Result :=
  plainForm 0x9A#8 .implied transferXS s

end Sys2Proof.Machine
end

