-- ==== Sys2Proof/Machine/ArithLogic.lean ====
section
/-! DEFINITION. Arithmetic, logic, compare, increment and decrement (spec/42_arith_logic.md R300 to R314). -/

namespace Sys2Proof.Machine

/-- `Add(M)` (R300, spec/40_execution.md R230). -/
def addToA (m : Byte) (s : State) : State :=
  let r := addWith Config.decimalEnabled s.flags.d s.a m s.flags.c
  { s with a := r.value, flags := s.flags.setArith r }

/-- `Sub(M)` (R301, spec/40_execution.md R230). -/
def subFromA (m : Byte) (s : State) : State :=
  let r := subWith Config.decimalEnabled s.flags.d s.a m s.flags.c
  { s with a := r.value, flags := s.flags.setArith r }

/-- `A <- A & M; SetNZ(A)` (R302). -/
def andA (m : Byte) (s : State) : State := loadA (s.a &&& m) s

/-- `A <- A | M; SetNZ(A)` (R303). -/
def orA (m : Byte) (s : State) : State := loadA (s.a ||| m) s

/-- `A <- A ^ M; SetNZ(A)` (R304). -/
def eorA (m : Byte) (s : State) : State := loadA (s.a ^^^ m) s

/-- `Z <- ((A & M) = 0); N <- M[7]; V <- M[6]` (R305). -/
def bitTest (m : Byte) (s : State) : State :=
  { s with flags := { s.flags with z := (s.a &&& m) == 0#8, n := m.getLsbD 7, v := m.getLsbD 6 } }

/-- `Compare(A, M)` (R306). -/
def compareA (m : Byte) (s : State) : State := { s with flags := s.flags.compare s.a m }

/-- `Compare(X, M)` (R307). -/
def compareX (m : Byte) (s : State) : State := { s with flags := s.flags.compare s.x m }

/-- `Compare(Y, M)` (R308). -/
def compareY (m : Byte) (s : State) : State := { s with flags := s.flags.compare s.y m }

/-- `X <- X + 1; SetNZ(X)` (R311). -/
def incrementX (s : State) : State := loadX (s.x + 1#8) s

/-- `Y <- Y + 1; SetNZ(Y)` (R312). -/
def incrementY (s : State) : State := loadY (s.y + 1#8) s

/-- `X <- X - 1; SetNZ(X)` (R313). -/
def decrementX (s : State) : State := loadX (s.x - 1#8) s

/-- `Y <- Y - 1; SetNZ(Y)` (R314). -/
def decrementY (s : State) : State := loadY (s.y - 1#8) s

/-! ## The instructions, one definition per opcode -/

/-- ADC 0x61, indirect_x (R300). -/
def execAdcIndX (zp : Byte) (s : State) : Result :=
  readForm 0x61#8 (.indirectX zp) addToA s

/-- ADC 0x65, zeropage (R300). -/
def execAdcZp (zp : Byte) (s : State) : Result :=
  readForm 0x65#8 (.zeropage zp) addToA s

/-- ADC 0x69, immediate (R300). -/
def execAdcImm (v : Byte) (s : State) : Result :=
  immForm 0x69#8 v addToA s

/-- ADC 0x6D, absolute (R300). -/
def execAdcAbs (addr : Addr) (s : State) : Result :=
  readForm 0x6D#8 (.absolute addr) addToA s

/-- ADC 0x71, indirect_y (R300). -/
def execAdcIndY (zp : Byte) (s : State) : Result :=
  readForm 0x71#8 (.indexed (.indirectY zp)) addToA s

/-- ADC 0x75, zeropage_x (R300). -/
def execAdcZpX (zp : Byte) (s : State) : Result :=
  readForm 0x75#8 (.zeropageX zp) addToA s

/-- ADC 0x79, absolute_y (R300). -/
def execAdcAbsY (addr : Addr) (s : State) : Result :=
  readForm 0x79#8 (.indexed (.absoluteY addr)) addToA s

/-- ADC 0x7D, absolute_x (R300). -/
def execAdcAbsX (addr : Addr) (s : State) : Result :=
  readForm 0x7D#8 (.indexed (.absoluteX addr)) addToA s

/-- SBC 0xE1, indirect_x (R301). -/
def execSbcIndX (zp : Byte) (s : State) : Result :=
  readForm 0xE1#8 (.indirectX zp) subFromA s

/-- SBC 0xE5, zeropage (R301). -/
def execSbcZp (zp : Byte) (s : State) : Result :=
  readForm 0xE5#8 (.zeropage zp) subFromA s

/-- SBC 0xE9, immediate (R301). -/
def execSbcImm (v : Byte) (s : State) : Result :=
  immForm 0xE9#8 v subFromA s

/-- SBC 0xED, absolute (R301). -/
def execSbcAbs (addr : Addr) (s : State) : Result :=
  readForm 0xED#8 (.absolute addr) subFromA s

/-- SBC 0xF1, indirect_y (R301). -/
def execSbcIndY (zp : Byte) (s : State) : Result :=
  readForm 0xF1#8 (.indexed (.indirectY zp)) subFromA s

/-- SBC 0xF5, zeropage_x (R301). -/
def execSbcZpX (zp : Byte) (s : State) : Result :=
  readForm 0xF5#8 (.zeropageX zp) subFromA s

/-- SBC 0xF9, absolute_y (R301). -/
def execSbcAbsY (addr : Addr) (s : State) : Result :=
  readForm 0xF9#8 (.indexed (.absoluteY addr)) subFromA s

/-- SBC 0xFD, absolute_x (R301). -/
def execSbcAbsX (addr : Addr) (s : State) : Result :=
  readForm 0xFD#8 (.indexed (.absoluteX addr)) subFromA s

/-- AND 0x21, indirect_x (R302). -/
def execAndIndX (zp : Byte) (s : State) : Result :=
  readForm 0x21#8 (.indirectX zp) andA s

/-- AND 0x25, zeropage (R302). -/
def execAndZp (zp : Byte) (s : State) : Result :=
  readForm 0x25#8 (.zeropage zp) andA s

/-- AND 0x29, immediate (R302). -/
def execAndImm (v : Byte) (s : State) : Result :=
  immForm 0x29#8 v andA s

/-- AND 0x2D, absolute (R302). -/
def execAndAbs (addr : Addr) (s : State) : Result :=
  readForm 0x2D#8 (.absolute addr) andA s

/-- AND 0x31, indirect_y (R302). -/
def execAndIndY (zp : Byte) (s : State) : Result :=
  readForm 0x31#8 (.indexed (.indirectY zp)) andA s

/-- AND 0x35, zeropage_x (R302). -/
def execAndZpX (zp : Byte) (s : State) : Result :=
  readForm 0x35#8 (.zeropageX zp) andA s

/-- AND 0x39, absolute_y (R302). -/
def execAndAbsY (addr : Addr) (s : State) : Result :=
  readForm 0x39#8 (.indexed (.absoluteY addr)) andA s

/-- AND 0x3D, absolute_x (R302). -/
def execAndAbsX (addr : Addr) (s : State) : Result :=
  readForm 0x3D#8 (.indexed (.absoluteX addr)) andA s

/-- ORA 0x01, indirect_x (R303). -/
def execOraIndX (zp : Byte) (s : State) : Result :=
  readForm 0x01#8 (.indirectX zp) orA s

/-- ORA 0x05, zeropage (R303). -/
def execOraZp (zp : Byte) (s : State) : Result :=
  readForm 0x05#8 (.zeropage zp) orA s

/-- ORA 0x09, immediate (R303). -/
def execOraImm (v : Byte) (s : State) : Result :=
  immForm 0x09#8 v orA s

/-- ORA 0x0D, absolute (R303). -/
def execOraAbs (addr : Addr) (s : State) : Result :=
  readForm 0x0D#8 (.absolute addr) orA s

/-- ORA 0x11, indirect_y (R303). -/
def execOraIndY (zp : Byte) (s : State) : Result :=
  readForm 0x11#8 (.indexed (.indirectY zp)) orA s

/-- ORA 0x15, zeropage_x (R303). -/
def execOraZpX (zp : Byte) (s : State) : Result :=
  readForm 0x15#8 (.zeropageX zp) orA s

/-- ORA 0x19, absolute_y (R303). -/
def execOraAbsY (addr : Addr) (s : State) : Result :=
  readForm 0x19#8 (.indexed (.absoluteY addr)) orA s

/-- ORA 0x1D, absolute_x (R303). -/
def execOraAbsX (addr : Addr) (s : State) : Result :=
  readForm 0x1D#8 (.indexed (.absoluteX addr)) orA s

/-- EOR 0x41, indirect_x (R304). -/
def execEorIndX (zp : Byte) (s : State) : Result :=
  readForm 0x41#8 (.indirectX zp) eorA s

/-- EOR 0x45, zeropage (R304). -/
def execEorZp (zp : Byte) (s : State) : Result :=
  readForm 0x45#8 (.zeropage zp) eorA s

/-- EOR 0x49, immediate (R304). -/
def execEorImm (v : Byte) (s : State) : Result :=
  immForm 0x49#8 v eorA s

/-- EOR 0x4D, absolute (R304). -/
def execEorAbs (addr : Addr) (s : State) : Result :=
  readForm 0x4D#8 (.absolute addr) eorA s

/-- EOR 0x51, indirect_y (R304). -/
def execEorIndY (zp : Byte) (s : State) : Result :=
  readForm 0x51#8 (.indexed (.indirectY zp)) eorA s

/-- EOR 0x55, zeropage_x (R304). -/
def execEorZpX (zp : Byte) (s : State) : Result :=
  readForm 0x55#8 (.zeropageX zp) eorA s

/-- EOR 0x59, absolute_y (R304). -/
def execEorAbsY (addr : Addr) (s : State) : Result :=
  readForm 0x59#8 (.indexed (.absoluteY addr)) eorA s

/-- EOR 0x5D, absolute_x (R304). -/
def execEorAbsX (addr : Addr) (s : State) : Result :=
  readForm 0x5D#8 (.indexed (.absoluteX addr)) eorA s

/-- BIT 0x24, zeropage (R305). -/
def execBitZp (zp : Byte) (s : State) : Result :=
  readForm 0x24#8 (.zeropage zp) bitTest s

/-- BIT 0x2C, absolute (R305). -/
def execBitAbs (addr : Addr) (s : State) : Result :=
  readForm 0x2C#8 (.absolute addr) bitTest s

/-- CMP 0xC1, indirect_x (R306). -/
def execCmpIndX (zp : Byte) (s : State) : Result :=
  readForm 0xC1#8 (.indirectX zp) compareA s

/-- CMP 0xC5, zeropage (R306). -/
def execCmpZp (zp : Byte) (s : State) : Result :=
  readForm 0xC5#8 (.zeropage zp) compareA s

/-- CMP 0xC9, immediate (R306). -/
def execCmpImm (v : Byte) (s : State) : Result :=
  immForm 0xC9#8 v compareA s

/-- CMP 0xCD, absolute (R306). -/
def execCmpAbs (addr : Addr) (s : State) : Result :=
  readForm 0xCD#8 (.absolute addr) compareA s

/-- CMP 0xD1, indirect_y (R306). -/
def execCmpIndY (zp : Byte) (s : State) : Result :=
  readForm 0xD1#8 (.indexed (.indirectY zp)) compareA s

/-- CMP 0xD5, zeropage_x (R306). -/
def execCmpZpX (zp : Byte) (s : State) : Result :=
  readForm 0xD5#8 (.zeropageX zp) compareA s

/-- CMP 0xD9, absolute_y (R306). -/
def execCmpAbsY (addr : Addr) (s : State) : Result :=
  readForm 0xD9#8 (.indexed (.absoluteY addr)) compareA s

/-- CMP 0xDD, absolute_x (R306). -/
def execCmpAbsX (addr : Addr) (s : State) : Result :=
  readForm 0xDD#8 (.indexed (.absoluteX addr)) compareA s

/-- CPX 0xE0, immediate (R307). -/
def execCpxImm (v : Byte) (s : State) : Result :=
  immForm 0xE0#8 v compareX s

/-- CPX 0xE4, zeropage (R307). -/
def execCpxZp (zp : Byte) (s : State) : Result :=
  readForm 0xE4#8 (.zeropage zp) compareX s

/-- CPX 0xEC, absolute (R307). -/
def execCpxAbs (addr : Addr) (s : State) : Result :=
  readForm 0xEC#8 (.absolute addr) compareX s

/-- CPY 0xC0, immediate (R308). -/
def execCpyImm (v : Byte) (s : State) : Result :=
  immForm 0xC0#8 v compareY s

/-- CPY 0xC4, zeropage (R308). -/
def execCpyZp (zp : Byte) (s : State) : Result :=
  readForm 0xC4#8 (.zeropage zp) compareY s

/-- CPY 0xCC, absolute (R308). -/
def execCpyAbs (addr : Addr) (s : State) : Result :=
  readForm 0xCC#8 (.absolute addr) compareY s

/-- INC 0xE6, zeropage (R309). -/
def execIncZp (zp : Byte) (s : State) : Result :=
  rmwForm 0xE6#8 (.zeropage zp) increment keepResult s

/-- INC 0xEE, absolute (R309). -/
def execIncAbs (addr : Addr) (s : State) : Result :=
  rmwForm 0xEE#8 (.absolute addr) increment keepResult s

/-- INC 0xF6, zeropage_x (R309). -/
def execIncZpX (zp : Byte) (s : State) : Result :=
  rmwForm 0xF6#8 (.zeropageX zp) increment keepResult s

/-- INC 0xFE, absolute_x (R309). -/
def execIncAbsX (addr : Addr) (s : State) : Result :=
  rmwForm 0xFE#8 (.indexed (.absoluteX addr)) increment keepResult s

/-- DEC 0xC6, zeropage (R310). -/
def execDecZp (zp : Byte) (s : State) : Result :=
  rmwForm 0xC6#8 (.zeropage zp) decrement keepResult s

/-- DEC 0xCE, absolute (R310). -/
def execDecAbs (addr : Addr) (s : State) : Result :=
  rmwForm 0xCE#8 (.absolute addr) decrement keepResult s

/-- DEC 0xD6, zeropage_x (R310). -/
def execDecZpX (zp : Byte) (s : State) : Result :=
  rmwForm 0xD6#8 (.zeropageX zp) decrement keepResult s

/-- DEC 0xDE, absolute_x (R310). -/
def execDecAbsX (addr : Addr) (s : State) : Result :=
  rmwForm 0xDE#8 (.indexed (.absoluteX addr)) decrement keepResult s

/-- INX 0xE8, implied (R311). -/
def execInx (s : State) : Result :=
  plainForm 0xE8#8 .implied incrementX s

/-- INY 0xC8, implied (R312). -/
def execIny (s : State) : Result :=
  plainForm 0xC8#8 .implied incrementY s

/-- DEX 0xCA, implied (R313). -/
def execDex (s : State) : Result :=
  plainForm 0xCA#8 .implied decrementX s

/-- DEY 0x88, implied (R314). -/
def execDey (s : State) : Result :=
  plainForm 0x88#8 .implied decrementY s

end Sys2Proof.Machine
end

