-- ==== Sys2Proof/Machine/ControlFlow.lean ====
section
/-! DEFINITION. Branches, jumps and subroutines (spec/44_control_flow.md R400 to R412). -/

namespace Sys2Proof.Machine

/-- JMP (R409, R410): `PC <- ea`; the indirect form's ea is what `ReadJmpInd` gave the resolver. -/
def jump (_ : Bus) (target : Addr) (s : State) : State := jumpTo target s

/-- JSR (R411): push the address of its last byte, high byte first, and jump. -/
def callSubroutine (bus : Bus) (target : Addr) (s : State) : State := jumpTo target (s.push16On bus (s.pc - 1#16))

/-- RTS (R412): pull the address, low byte first, and go to the byte after it. -/
def returnFromSubroutine (bus : Bus) (s : State) : State :=
  let target := s.pull16On bus
  jumpTo (target.1 + 1#16) target.2

/-! ## The instructions, one definition per opcode -/

/-- BPL 0x10, relative (R401). -/
def execBpl (disp : Int) (s : State) : Result :=
  branchForm 0x10#8 disp (fun f => !f.n) s

/-- BMI 0x30, relative (R402). -/
def execBmi (disp : Int) (s : State) : Result :=
  branchForm 0x30#8 disp (fun f => f.n) s

/-- BVC 0x50, relative (R403). -/
def execBvc (disp : Int) (s : State) : Result :=
  branchForm 0x50#8 disp (fun f => !f.v) s

/-- BVS 0x70, relative (R404). -/
def execBvs (disp : Int) (s : State) : Result :=
  branchForm 0x70#8 disp (fun f => f.v) s

/-- BCC 0x90, relative (R405). -/
def execBcc (disp : Int) (s : State) : Result :=
  branchForm 0x90#8 disp (fun f => !f.c) s

/-- BCS 0xB0, relative (R406). -/
def execBcs (disp : Int) (s : State) : Result :=
  branchForm 0xB0#8 disp (fun f => f.c) s

/-- BNE 0xD0, relative (R407). -/
def execBne (disp : Int) (s : State) : Result :=
  branchForm 0xD0#8 disp (fun f => !f.z) s

/-- BEQ 0xF0, relative (R408). -/
def execBeq (disp : Int) (s : State) : Result :=
  branchForm 0xF0#8 disp (fun f => f.z) s

/-- JMP 0x4C, absolute (R409). -/
def execJmpAbs (addr : Addr) (s : State) : Result :=
  jumpForm 0x4C#8 (.memory (.absolute addr)) jump s

/-- JMP 0x6C, indirect (R410). -/
def execJmpInd (ptr : Addr) (s : State) : Result :=
  jumpForm 0x6C#8 (.indirect ptr) jump s

/-- JSR 0x20, absolute (R411). -/
def execJsr (addr : Addr) (s : State) : Result :=
  jumpForm 0x20#8 (.memory (.absolute addr)) callSubroutine s

/-- RTS 0x60, implied (R412). -/
def execRts (s : State) : Result :=
  stackForm 0x60#8 returnFromSubroutine s

end Sys2Proof.Machine
end

