-- ==== Sys2Proof/Machine/ShiftRotate.lean ====
section
/-! DEFINITION. Shifts and rotates (spec/43_shift_rotate.md R350 to R353), over the primitives of Flags. -/

namespace Sys2Proof.Machine

/-- ASL 0x06, zeropage (R350). -/
def execAslZp (zp : Byte) (s : State) : Result :=
  rmwForm 0x06#8 (.zeropage zp) shiftLeft keepResult s

/-- ASL 0x0A, accumulator (R350). -/
def execAslAcc (s : State) : Result :=
  accForm 0x0A#8 shiftLeft s

/-- ASL 0x0E, absolute (R350). -/
def execAslAbs (addr : Addr) (s : State) : Result :=
  rmwForm 0x0E#8 (.absolute addr) shiftLeft keepResult s

/-- ASL 0x16, zeropage_x (R350). -/
def execAslZpX (zp : Byte) (s : State) : Result :=
  rmwForm 0x16#8 (.zeropageX zp) shiftLeft keepResult s

/-- ASL 0x1E, absolute_x (R350). -/
def execAslAbsX (addr : Addr) (s : State) : Result :=
  rmwForm 0x1E#8 (.indexed (.absoluteX addr)) shiftLeft keepResult s

/-- LSR 0x46, zeropage (R351). -/
def execLsrZp (zp : Byte) (s : State) : Result :=
  rmwForm 0x46#8 (.zeropage zp) shiftRight keepResult s

/-- LSR 0x4A, accumulator (R351). -/
def execLsrAcc (s : State) : Result :=
  accForm 0x4A#8 shiftRight s

/-- LSR 0x4E, absolute (R351). -/
def execLsrAbs (addr : Addr) (s : State) : Result :=
  rmwForm 0x4E#8 (.absolute addr) shiftRight keepResult s

/-- LSR 0x56, zeropage_x (R351). -/
def execLsrZpX (zp : Byte) (s : State) : Result :=
  rmwForm 0x56#8 (.zeropageX zp) shiftRight keepResult s

/-- LSR 0x5E, absolute_x (R351). -/
def execLsrAbsX (addr : Addr) (s : State) : Result :=
  rmwForm 0x5E#8 (.indexed (.absoluteX addr)) shiftRight keepResult s

/-- ROL 0x26, zeropage (R352). -/
def execRolZp (zp : Byte) (s : State) : Result :=
  rmwForm 0x26#8 (.zeropage zp) rotateLeft keepResult s

/-- ROL 0x2A, accumulator (R352). -/
def execRolAcc (s : State) : Result :=
  accForm 0x2A#8 rotateLeft s

/-- ROL 0x2E, absolute (R352). -/
def execRolAbs (addr : Addr) (s : State) : Result :=
  rmwForm 0x2E#8 (.absolute addr) rotateLeft keepResult s

/-- ROL 0x36, zeropage_x (R352). -/
def execRolZpX (zp : Byte) (s : State) : Result :=
  rmwForm 0x36#8 (.zeropageX zp) rotateLeft keepResult s

/-- ROL 0x3E, absolute_x (R352). -/
def execRolAbsX (addr : Addr) (s : State) : Result :=
  rmwForm 0x3E#8 (.indexed (.absoluteX addr)) rotateLeft keepResult s

/-- ROR 0x66, zeropage (R353). -/
def execRorZp (zp : Byte) (s : State) : Result :=
  rmwForm 0x66#8 (.zeropage zp) rotateRight keepResult s

/-- ROR 0x6A, accumulator (R353). -/
def execRorAcc (s : State) : Result :=
  accForm 0x6A#8 rotateRight s

/-- ROR 0x6E, absolute (R353). -/
def execRorAbs (addr : Addr) (s : State) : Result :=
  rmwForm 0x6E#8 (.absolute addr) rotateRight keepResult s

/-- ROR 0x76, zeropage_x (R353). -/
def execRorZpX (zp : Byte) (s : State) : Result :=
  rmwForm 0x76#8 (.zeropageX zp) rotateRight keepResult s

/-- ROR 0x7E, absolute_x (R353). -/
def execRorAbsX (addr : Addr) (s : State) : Result :=
  rmwForm 0x7E#8 (.indexed (.absoluteX addr)) rotateRight keepResult s

end Sys2Proof.Machine
end

