-- ==== Sys2Proof/Machine/StackFlagSystem.lean ====
section
/-! DEFINITION. Stack, flag and system instructions (spec/45_stack_flag_system.md R450 to R463). -/

namespace Sys2Proof.Machine

/-- `Push(A)` (R450). -/
def pushA (bus : Bus) (s : State) : State := s.pushOn bus s.a

/-- `Push(PackP(1))` (R451). -/
def pushStatus (bus : Bus) (s : State) : State := s.pushOn bus (s.flags.pack true)

/-- `A <- Pull(); SetNZ(A)` (R452). -/
def pullA (bus : Bus) (s : State) : State :=
  let m := s.pullOn bus
  loadA m.1 m.2

/-- `UnpackP(Pull())` (R453). -/
def pullStatus (bus : Bus) (s : State) : State :=
  let m := s.pullOn bus
  { m.2 with flags := Flags.unpack m.1 }

/-- `C <- 0` (R454). -/
def clearCarry (s : State) : State := { s with flags := { s.flags with c := false } }

/-- `C <- 1` (R455). -/
def setCarry (s : State) : State := { s with flags := { s.flags with c := true } }

/-- `I <- 0` (R456). -/
def clearMask (s : State) : State := { s with flags := { s.flags with i := false } }

/-- `I <- 1` (R457). -/
def setMask (s : State) : State := { s with flags := { s.flags with i := true } }

/-- `D <- 0` (R458). -/
def clearDecimal (s : State) : State := { s with flags := { s.flags with d := false } }

/-- `D <- 1` (R459). -/
def setDecimal (s : State) : State := { s with flags := { s.flags with d := true } }

/-- `V <- 0` (R460). -/
def clearOverflow (s : State) : State := { s with flags := { s.flags with v := false } }

/-- Nothing beyond the fetch (R461, spec/47_undocumented.md R571). -/
def doNothing (s : State) : State := s

/-- BRK (R462): skip the signature byte, which is not read, and run the entry sequence with bit 4 of the
pushed byte set. -/
def softwareBreak (bus : Bus) (s : State) : State := interruptEntryOn bus true irqVector (s.advance 1)

/-! ## The instructions, one definition per opcode -/

/-- PHA 0x48, implied (R450). -/
def execPha (s : State) : Result :=
  stackForm 0x48#8 pushA s

/-- PHP 0x08, implied (R451). -/
def execPhp (s : State) : Result :=
  stackForm 0x08#8 pushStatus s

/-- PLA 0x68, implied (R452). -/
def execPla (s : State) : Result :=
  stackForm 0x68#8 pullA s

/-- PLP 0x28, implied (R453). -/
def execPlp (s : State) : Result :=
  stackForm 0x28#8 pullStatus s

/-- CLC 0x18, implied (R454). -/
def execClc (s : State) : Result :=
  plainForm 0x18#8 .implied clearCarry s

/-- SEC 0x38, implied (R455). -/
def execSec (s : State) : Result :=
  plainForm 0x38#8 .implied setCarry s

/-- CLI 0x58, implied (R456). -/
def execCli (s : State) : Result :=
  plainForm 0x58#8 .implied clearMask s

/-- SEI 0x78, implied (R457). -/
def execSei (s : State) : Result :=
  plainForm 0x78#8 .implied setMask s

/-- CLD 0xD8, implied (R458). -/
def execCld (s : State) : Result :=
  plainForm 0xD8#8 .implied clearDecimal s

/-- SED 0xF8, implied (R459). -/
def execSed (s : State) : Result :=
  plainForm 0xF8#8 .implied setDecimal s

/-- CLV 0xB8, implied (R460). -/
def execClv (s : State) : Result :=
  plainForm 0xB8#8 .implied clearOverflow s

/-- NOP 0xEA, implied (R461). -/
def execNop (s : State) : Result :=
  plainForm 0xEA#8 .implied doNothing s

/-- BRK 0x00, implied (R462). -/
def execBrk (s : State) : Result :=
  stackForm 0x00#8 softwareBreak s

/-- RTI 0x40, implied (R463). -/
def execRti (s : State) : Result :=
  stackForm 0x40#8 returnFromInterruptOn s

end Sys2Proof.Machine
end

