-- ==== Sys2Proof/Machine/Undocumented.lean ====
section
/-! DEFINITION. The undocumented opcodes (spec/47_undocumented.md R550 to R573). -/

namespace Sys2Proof.Machine

/-- `A & X`, what SAX and SHA store (R554, R567). -/
def andOfAX (s : State) : Byte := s.a &&& s.x

/-- `A <- M; X <- M; SetNZ(M)` (R555). -/
def loadAX (m : Byte) (s : State) : State := { s with a := m, x := m, flags := s.flags.setNZ m }

/-- LAS (R565): `M & SP` into A, X and SP. -/
def loadAndSp (m : Byte) (s : State) : State :=
  let v := m &&& s.sp
  { s with a := v, x := v, sp := v, flags := s.flags.setNZ v }

/-- ANC (R558): `A <- A & M; SetNZ(A); C <- N`. -/
def andCarry (m : Byte) (s : State) : State :=
  let v := s.a &&& m
  { s with a := v, flags := { s.flags.setNZ v with c := v.msb } }

/-- ALR (R559): `A <- ShiftRight(A & M)`. -/
def andShift (m : Byte) (s : State) : State :=
  let r := shiftRight (s.a &&& m) s.flags
  { s with a := r.1, flags := r.2 }

/-- ARR (R560). -/
def andRotate (m : Byte) (s : State) : State :=
  let r := arrWith Config.decimalEnabled s.a m s.flags
  { s with a := r.1, flags := r.2 }

/-- `(A | ANE_MAGIC) & X & M` (R561). -/
def aneValue (magic a x m : Byte) : Byte := (a ||| magic) &&& x &&& m

/-- ANE (R561), with the chip's own constant, which is free (assumption 4). -/
def andUnstable (m : Byte) (s : State) : State := loadA (aneValue Config.aneMagic s.a s.x m) s

/-- `(A | LXA_MAGIC) & M` (R562). -/
def lxaValue (magic a m : Byte) : Byte := (a ||| magic) &&& m

/-- LXA (R562), with the chip's own constant, which is free (assumption 4). -/
def loadUnstable (m : Byte) (s : State) : State := loadAX (lxaValue Config.lxaMagic s.a m) s

/-- SBX (R563): `t <- A & X; C <- (t >= M); X <- t - M; SetNZ(X)`: the flags of a compare. -/
def subFromAX (m : Byte) (s : State) : State :=
  let t := s.a &&& s.x
  { s with x := t - m, flags := s.flags.compare t m }

/-- What TAS does before its store (R570): `SP <- A & X`. -/
def spFromAX (s : State) : State := { s with sp := s.a &&& s.x }

/-- The NOPs with an operand read their byte and discard it (R572). -/
def discard (_ : Byte) (s : State) : State := s

/-- JAM (R573): `run <- Jammed`. -/
def haltCore (s : State) : State := { s with run := .jammed }

/-! ## The instructions, one definition per opcode -/

/-- SLO 0x03, indirect_x (R550). -/
def execSloIndX (zp : Byte) (s : State) : Result :=
  rmwForm 0x03#8 (.indirectX zp) shiftLeft orA s

/-- SLO 0x07, zeropage (R550). -/
def execSloZp (zp : Byte) (s : State) : Result :=
  rmwForm 0x07#8 (.zeropage zp) shiftLeft orA s

/-- SLO 0x0F, absolute (R550). -/
def execSloAbs (addr : Addr) (s : State) : Result :=
  rmwForm 0x0F#8 (.absolute addr) shiftLeft orA s

/-- SLO 0x13, indirect_y (R550). -/
def execSloIndY (zp : Byte) (s : State) : Result :=
  rmwForm 0x13#8 (.indexed (.indirectY zp)) shiftLeft orA s

/-- SLO 0x17, zeropage_x (R550). -/
def execSloZpX (zp : Byte) (s : State) : Result :=
  rmwForm 0x17#8 (.zeropageX zp) shiftLeft orA s

/-- SLO 0x1B, absolute_y (R550). -/
def execSloAbsY (addr : Addr) (s : State) : Result :=
  rmwForm 0x1B#8 (.indexed (.absoluteY addr)) shiftLeft orA s

/-- SLO 0x1F, absolute_x (R550). -/
def execSloAbsX (addr : Addr) (s : State) : Result :=
  rmwForm 0x1F#8 (.indexed (.absoluteX addr)) shiftLeft orA s

/-- RLA 0x23, indirect_x (R551). -/
def execRlaIndX (zp : Byte) (s : State) : Result :=
  rmwForm 0x23#8 (.indirectX zp) rotateLeft andA s

/-- RLA 0x27, zeropage (R551). -/
def execRlaZp (zp : Byte) (s : State) : Result :=
  rmwForm 0x27#8 (.zeropage zp) rotateLeft andA s

/-- RLA 0x2F, absolute (R551). -/
def execRlaAbs (addr : Addr) (s : State) : Result :=
  rmwForm 0x2F#8 (.absolute addr) rotateLeft andA s

/-- RLA 0x33, indirect_y (R551). -/
def execRlaIndY (zp : Byte) (s : State) : Result :=
  rmwForm 0x33#8 (.indexed (.indirectY zp)) rotateLeft andA s

/-- RLA 0x37, zeropage_x (R551). -/
def execRlaZpX (zp : Byte) (s : State) : Result :=
  rmwForm 0x37#8 (.zeropageX zp) rotateLeft andA s

/-- RLA 0x3B, absolute_y (R551). -/
def execRlaAbsY (addr : Addr) (s : State) : Result :=
  rmwForm 0x3B#8 (.indexed (.absoluteY addr)) rotateLeft andA s

/-- RLA 0x3F, absolute_x (R551). -/
def execRlaAbsX (addr : Addr) (s : State) : Result :=
  rmwForm 0x3F#8 (.indexed (.absoluteX addr)) rotateLeft andA s

/-- SRE 0x43, indirect_x (R552). -/
def execSreIndX (zp : Byte) (s : State) : Result :=
  rmwForm 0x43#8 (.indirectX zp) shiftRight eorA s

/-- SRE 0x47, zeropage (R552). -/
def execSreZp (zp : Byte) (s : State) : Result :=
  rmwForm 0x47#8 (.zeropage zp) shiftRight eorA s

/-- SRE 0x4F, absolute (R552). -/
def execSreAbs (addr : Addr) (s : State) : Result :=
  rmwForm 0x4F#8 (.absolute addr) shiftRight eorA s

/-- SRE 0x53, indirect_y (R552). -/
def execSreIndY (zp : Byte) (s : State) : Result :=
  rmwForm 0x53#8 (.indexed (.indirectY zp)) shiftRight eorA s

/-- SRE 0x57, zeropage_x (R552). -/
def execSreZpX (zp : Byte) (s : State) : Result :=
  rmwForm 0x57#8 (.zeropageX zp) shiftRight eorA s

/-- SRE 0x5B, absolute_y (R552). -/
def execSreAbsY (addr : Addr) (s : State) : Result :=
  rmwForm 0x5B#8 (.indexed (.absoluteY addr)) shiftRight eorA s

/-- SRE 0x5F, absolute_x (R552). -/
def execSreAbsX (addr : Addr) (s : State) : Result :=
  rmwForm 0x5F#8 (.indexed (.absoluteX addr)) shiftRight eorA s

/-- RRA 0x63, indirect_x (R553). -/
def execRraIndX (zp : Byte) (s : State) : Result :=
  rmwForm 0x63#8 (.indirectX zp) rotateRight addToA s

/-- RRA 0x67, zeropage (R553). -/
def execRraZp (zp : Byte) (s : State) : Result :=
  rmwForm 0x67#8 (.zeropage zp) rotateRight addToA s

/-- RRA 0x6F, absolute (R553). -/
def execRraAbs (addr : Addr) (s : State) : Result :=
  rmwForm 0x6F#8 (.absolute addr) rotateRight addToA s

/-- RRA 0x73, indirect_y (R553). -/
def execRraIndY (zp : Byte) (s : State) : Result :=
  rmwForm 0x73#8 (.indexed (.indirectY zp)) rotateRight addToA s

/-- RRA 0x77, zeropage_x (R553). -/
def execRraZpX (zp : Byte) (s : State) : Result :=
  rmwForm 0x77#8 (.zeropageX zp) rotateRight addToA s

/-- RRA 0x7B, absolute_y (R553). -/
def execRraAbsY (addr : Addr) (s : State) : Result :=
  rmwForm 0x7B#8 (.indexed (.absoluteY addr)) rotateRight addToA s

/-- RRA 0x7F, absolute_x (R553). -/
def execRraAbsX (addr : Addr) (s : State) : Result :=
  rmwForm 0x7F#8 (.indexed (.absoluteX addr)) rotateRight addToA s

/-- DCP 0xC3, indirect_x (R556). -/
def execDcpIndX (zp : Byte) (s : State) : Result :=
  rmwForm 0xC3#8 (.indirectX zp) decrementOnly compareA s

/-- DCP 0xC7, zeropage (R556). -/
def execDcpZp (zp : Byte) (s : State) : Result :=
  rmwForm 0xC7#8 (.zeropage zp) decrementOnly compareA s

/-- DCP 0xCF, absolute (R556). -/
def execDcpAbs (addr : Addr) (s : State) : Result :=
  rmwForm 0xCF#8 (.absolute addr) decrementOnly compareA s

/-- DCP 0xD3, indirect_y (R556). -/
def execDcpIndY (zp : Byte) (s : State) : Result :=
  rmwForm 0xD3#8 (.indexed (.indirectY zp)) decrementOnly compareA s

/-- DCP 0xD7, zeropage_x (R556). -/
def execDcpZpX (zp : Byte) (s : State) : Result :=
  rmwForm 0xD7#8 (.zeropageX zp) decrementOnly compareA s

/-- DCP 0xDB, absolute_y (R556). -/
def execDcpAbsY (addr : Addr) (s : State) : Result :=
  rmwForm 0xDB#8 (.indexed (.absoluteY addr)) decrementOnly compareA s

/-- DCP 0xDF, absolute_x (R556). -/
def execDcpAbsX (addr : Addr) (s : State) : Result :=
  rmwForm 0xDF#8 (.indexed (.absoluteX addr)) decrementOnly compareA s

/-- ISC 0xE3, indirect_x (R557). -/
def execIscIndX (zp : Byte) (s : State) : Result :=
  rmwForm 0xE3#8 (.indirectX zp) incrementOnly subFromA s

/-- ISC 0xE7, zeropage (R557). -/
def execIscZp (zp : Byte) (s : State) : Result :=
  rmwForm 0xE7#8 (.zeropage zp) incrementOnly subFromA s

/-- ISC 0xEF, absolute (R557). -/
def execIscAbs (addr : Addr) (s : State) : Result :=
  rmwForm 0xEF#8 (.absolute addr) incrementOnly subFromA s

/-- ISC 0xF3, indirect_y (R557). -/
def execIscIndY (zp : Byte) (s : State) : Result :=
  rmwForm 0xF3#8 (.indexed (.indirectY zp)) incrementOnly subFromA s

/-- ISC 0xF7, zeropage_x (R557). -/
def execIscZpX (zp : Byte) (s : State) : Result :=
  rmwForm 0xF7#8 (.zeropageX zp) incrementOnly subFromA s

/-- ISC 0xFB, absolute_y (R557). -/
def execIscAbsY (addr : Addr) (s : State) : Result :=
  rmwForm 0xFB#8 (.indexed (.absoluteY addr)) incrementOnly subFromA s

/-- ISC 0xFF, absolute_x (R557). -/
def execIscAbsX (addr : Addr) (s : State) : Result :=
  rmwForm 0xFF#8 (.indexed (.absoluteX addr)) incrementOnly subFromA s

/-- SAX 0x83, indirect_x (R554). -/
def execSaxIndX (zp : Byte) (s : State) : Result :=
  storeForm 0x83#8 (.indirectX zp) andOfAX s

/-- SAX 0x87, zeropage (R554). -/
def execSaxZp (zp : Byte) (s : State) : Result :=
  storeForm 0x87#8 (.zeropage zp) andOfAX s

/-- SAX 0x8F, absolute (R554). -/
def execSaxAbs (addr : Addr) (s : State) : Result :=
  storeForm 0x8F#8 (.absolute addr) andOfAX s

/-- SAX 0x97, zeropage_y (R554). -/
def execSaxZpY (zp : Byte) (s : State) : Result :=
  storeForm 0x97#8 (.zeropageY zp) andOfAX s

/-- LAX 0xA3, indirect_x (R555). -/
def execLaxIndX (zp : Byte) (s : State) : Result :=
  readForm 0xA3#8 (.indirectX zp) loadAX s

/-- LAX 0xA7, zeropage (R555). -/
def execLaxZp (zp : Byte) (s : State) : Result :=
  readForm 0xA7#8 (.zeropage zp) loadAX s

/-- LAX 0xAF, absolute (R555). -/
def execLaxAbs (addr : Addr) (s : State) : Result :=
  readForm 0xAF#8 (.absolute addr) loadAX s

/-- LAX 0xB3, indirect_y (R555). -/
def execLaxIndY (zp : Byte) (s : State) : Result :=
  readForm 0xB3#8 (.indexed (.indirectY zp)) loadAX s

/-- LAX 0xB7, zeropage_y (R555). -/
def execLaxZpY (zp : Byte) (s : State) : Result :=
  readForm 0xB7#8 (.zeropageY zp) loadAX s

/-- LAX 0xBF, absolute_y (R555). -/
def execLaxAbsY (addr : Addr) (s : State) : Result :=
  readForm 0xBF#8 (.indexed (.absoluteY addr)) loadAX s

/-- LAS 0xBB, absolute_y (R565). -/
def execLasAbsY (addr : Addr) (s : State) : Result :=
  readForm 0xBB#8 (.indexed (.absoluteY addr)) loadAndSp s

/-- ANC 0x0B, immediate (R558). -/
def execAncImm0B (v : Byte) (s : State) : Result :=
  immForm 0x0B#8 v andCarry s

/-- ANC 0x2B, immediate (R558). -/
def execAncImm2B (v : Byte) (s : State) : Result :=
  immForm 0x2B#8 v andCarry s

/-- ALR 0x4B, immediate (R559). -/
def execAlrImm (v : Byte) (s : State) : Result :=
  immForm 0x4B#8 v andShift s

/-- ARR 0x6B, immediate (R560). -/
def execArrImm (v : Byte) (s : State) : Result :=
  immForm 0x6B#8 v andRotate s

/-- ANE 0x8B, immediate (R561). -/
def execAneImm (v : Byte) (s : State) : Result :=
  immForm 0x8B#8 v andUnstable s

/-- LXA 0xAB, immediate (R562). -/
def execLxaImm (v : Byte) (s : State) : Result :=
  immForm 0xAB#8 v loadUnstable s

/-- SBX 0xCB, immediate (R563). -/
def execSbxImm (v : Byte) (s : State) : Result :=
  immForm 0xCB#8 v subFromAX s

/-- USBC 0xEB, immediate (R564). -/
def execUsbcImm (v : Byte) (s : State) : Result :=
  immForm 0xEB#8 v subFromA s

/-- SHA 0x93, indirect_y (R567). -/
def execShaIndY (zp : Byte) (s : State) : Result :=
  unstableStoreForm 0x93#8 (.indirectY zp) nothingFirst andOfAX s

/-- SHA 0x9F, absolute_y (R567). -/
def execShaAbsY (addr : Addr) (s : State) : Result :=
  unstableStoreForm 0x9F#8 (.absoluteY addr) nothingFirst andOfAX s

/-- SHX 0x9E, absolute_y (R568). -/
def execShxAbsY (addr : Addr) (s : State) : Result :=
  unstableStoreForm 0x9E#8 (.absoluteY addr) nothingFirst State.x s

/-- SHY 0x9C, absolute_x (R569). -/
def execShyAbsX (addr : Addr) (s : State) : Result :=
  unstableStoreForm 0x9C#8 (.absoluteX addr) nothingFirst State.y s

/-- TAS 0x9B, absolute_y (R570). -/
def execTasAbsY (addr : Addr) (s : State) : Result :=
  unstableStoreForm 0x9B#8 (.absoluteY addr) spFromAX State.sp s

/-- NOP 0x04, zeropage (R572). -/
def execNopZp04 (zp : Byte) (s : State) : Result :=
  readForm 0x04#8 (.zeropage zp) discard s

/-- NOP 0x0C, absolute (R572). -/
def execNopAbs (addr : Addr) (s : State) : Result :=
  readForm 0x0C#8 (.absolute addr) discard s

/-- NOP 0x14, zeropage_x (R572). -/
def execNopZpX14 (zp : Byte) (s : State) : Result :=
  readForm 0x14#8 (.zeropageX zp) discard s

/-- NOP 0x1A, implied (R571). -/
def execNop1A (s : State) : Result :=
  plainForm 0x1A#8 .implied doNothing s

/-- NOP 0x1C, absolute_x (R572). -/
def execNopAbsX1C (addr : Addr) (s : State) : Result :=
  readForm 0x1C#8 (.indexed (.absoluteX addr)) discard s

/-- NOP 0x34, zeropage_x (R572). -/
def execNopZpX34 (zp : Byte) (s : State) : Result :=
  readForm 0x34#8 (.zeropageX zp) discard s

/-- NOP 0x3A, implied (R571). -/
def execNop3A (s : State) : Result :=
  plainForm 0x3A#8 .implied doNothing s

/-- NOP 0x3C, absolute_x (R572). -/
def execNopAbsX3C (addr : Addr) (s : State) : Result :=
  readForm 0x3C#8 (.indexed (.absoluteX addr)) discard s

/-- NOP 0x44, zeropage (R572). -/
def execNopZp44 (zp : Byte) (s : State) : Result :=
  readForm 0x44#8 (.zeropage zp) discard s

/-- NOP 0x54, zeropage_x (R572). -/
def execNopZpX54 (zp : Byte) (s : State) : Result :=
  readForm 0x54#8 (.zeropageX zp) discard s

/-- NOP 0x5A, implied (R571). -/
def execNop5A (s : State) : Result :=
  plainForm 0x5A#8 .implied doNothing s

/-- NOP 0x5C, absolute_x (R572). -/
def execNopAbsX5C (addr : Addr) (s : State) : Result :=
  readForm 0x5C#8 (.indexed (.absoluteX addr)) discard s

/-- NOP 0x64, zeropage (R572). -/
def execNopZp64 (zp : Byte) (s : State) : Result :=
  readForm 0x64#8 (.zeropage zp) discard s

/-- NOP 0x74, zeropage_x (R572). -/
def execNopZpX74 (zp : Byte) (s : State) : Result :=
  readForm 0x74#8 (.zeropageX zp) discard s

/-- NOP 0x7A, implied (R571). -/
def execNop7A (s : State) : Result :=
  plainForm 0x7A#8 .implied doNothing s

/-- NOP 0x7C, absolute_x (R572). -/
def execNopAbsX7C (addr : Addr) (s : State) : Result :=
  readForm 0x7C#8 (.indexed (.absoluteX addr)) discard s

/-- NOP 0x80, immediate (R572). -/
def execNopImm80 (v : Byte) (s : State) : Result :=
  immForm 0x80#8 v discard s

/-- NOP 0x82, immediate (R572). -/
def execNopImm82 (v : Byte) (s : State) : Result :=
  immForm 0x82#8 v discard s

/-- NOP 0x89, immediate (R572). -/
def execNopImm89 (v : Byte) (s : State) : Result :=
  immForm 0x89#8 v discard s

/-- NOP 0xC2, immediate (R572). -/
def execNopImmC2 (v : Byte) (s : State) : Result :=
  immForm 0xC2#8 v discard s

/-- NOP 0xD4, zeropage_x (R572). -/
def execNopZpXD4 (zp : Byte) (s : State) : Result :=
  readForm 0xD4#8 (.zeropageX zp) discard s

/-- NOP 0xDA, implied (R571). -/
def execNopDA (s : State) : Result :=
  plainForm 0xDA#8 .implied doNothing s

/-- NOP 0xDC, absolute_x (R572). -/
def execNopAbsXDC (addr : Addr) (s : State) : Result :=
  readForm 0xDC#8 (.indexed (.absoluteX addr)) discard s

/-- NOP 0xE2, immediate (R572). -/
def execNopImmE2 (v : Byte) (s : State) : Result :=
  immForm 0xE2#8 v discard s

/-- NOP 0xF4, zeropage_x (R572). -/
def execNopZpXF4 (zp : Byte) (s : State) : Result :=
  readForm 0xF4#8 (.zeropageX zp) discard s

/-- NOP 0xFA, implied (R571). -/
def execNopFA (s : State) : Result :=
  plainForm 0xFA#8 .implied doNothing s

/-- NOP 0xFC, absolute_x (R572). -/
def execNopAbsXFC (addr : Addr) (s : State) : Result :=
  readForm 0xFC#8 (.indexed (.absoluteX addr)) discard s

/-- JAM 0x02, implied (R573). -/
def execJam02 (s : State) : Result :=
  plainForm 0x02#8 .implied haltCore s

/-- JAM 0x12, implied (R573). -/
def execJam12 (s : State) : Result :=
  plainForm 0x12#8 .implied haltCore s

/-- JAM 0x22, implied (R573). -/
def execJam22 (s : State) : Result :=
  plainForm 0x22#8 .implied haltCore s

/-- JAM 0x32, implied (R573). -/
def execJam32 (s : State) : Result :=
  plainForm 0x32#8 .implied haltCore s

/-- JAM 0x42, implied (R573). -/
def execJam42 (s : State) : Result :=
  plainForm 0x42#8 .implied haltCore s

/-- JAM 0x52, implied (R573). -/
def execJam52 (s : State) : Result :=
  plainForm 0x52#8 .implied haltCore s

/-- JAM 0x62, implied (R573). -/
def execJam62 (s : State) : Result :=
  plainForm 0x62#8 .implied haltCore s

/-- JAM 0x72, implied (R573). -/
def execJam72 (s : State) : Result :=
  plainForm 0x72#8 .implied haltCore s

/-- JAM 0x92, implied (R573). -/
def execJam92 (s : State) : Result :=
  plainForm 0x92#8 .implied haltCore s

/-- JAM 0xB2, implied (R573). -/
def execJamB2 (s : State) : Result :=
  plainForm 0xB2#8 .implied haltCore s

/-- JAM 0xD2, implied (R573). -/
def execJamD2 (s : State) : Result :=
  plainForm 0xD2#8 .implied haltCore s

/-- JAM 0xF2, implied (R573). -/
def execJamF2 (s : State) : Result :=
  plainForm 0xF2#8 .implied haltCore s

end Sys2Proof.Machine
end

