-- ==== Sys2Proof/Machine/Step.lean ====
section
/-! DEFINITION. One step (spec/40_execution.md R200): an interrupt entry or an instruction, never both.
The same step over any bus is `stepOn` of Machine/AnyBus. -/

namespace Sys2Proof.Machine

/-- `step()` (R200, spec/60_exceptions.md R604; refused before the first reset,
spec/70_reset_and_hazards.md R703). -/
def step (s : State) : Host.Outcome State Fault Refusal :=
  match stepKind s with
  | .beforeReset => .refused .stepBeforeReset
  | .jammed => .next s
  | .nmi => .next (serviceNmi s)
  | .irq => .next (serviceIrq s)
  | .instruction => exec (fetchOn Config.bus s).1 (fetchOn Config.bus s).2

/-- The state with an instruction placed at PC, so that the very next step fetches and runs it: the bytes
in memory, and nothing left that would keep a step from fetching (no jam, no NMI pending, no unmasked IRQ
pending, reset done). Assumption 10. -/
def State.withFetchWord (s : State) (nbits w : Nat) : State :=
  { s.loadBytes s.pc (tableBytes nbits w) with
    run := .running
    nmiPending := false
    irqPending := s.irqPending && s.iPoll
    resetDone := true }

end Sys2Proof.Machine
end

