-- ==== Sys2Proof/Machine/Driver.lean ====
section
/-! DEFINITION. The driver's interface (spec/10_state.md R74, spec/70_reset_and_hazards.md R700 to R704,
spec/60_exceptions.md R602): the calls the outside world makes between steps, and power-on. -/

namespace Sys2Proof.Machine

/-- The kinds of `request_interrupt` (spec/60_exceptions.md R601). -/
inductive InterruptKind where
  | maskable
  | nonMaskable
  deriving DecidableEq, Repr

/-- `request_interrupt(kind)` (R602): sets the kind's latch and changes nothing else. -/
def Driver.requestInterrupt (kind : InterruptKind) (s : State) : State :=
  match kind with
  | .maskable => { s with irqPending := true }
  | .nonMaskable => { s with nmiPending := true }

/-- `reset()` on a bus (spec/70_reset_and_hazards.md R701): two reads, the vector's; A, X and Y are unchanged. -/
def Driver.resetOn (bus : Bus) (s : State) : State :=
  let vector := s.read16On bus resetVector
  { vector.2 with
    pc := vector.1
    sp := 0xFD#8
    flags := { c := false, z := false, i := true, d := false, b := false, v := false, n := false }
    iPoll := true
    nmiPending := false
    irqPending := false
    run := .running
    cycles := 7#64
    resetDone := true }

/-- `reset()` of this hardware: memory is unchanged too. -/
def Driver.reset (s : State) : State := Driver.resetOn Config.bus s

/-- What power-on leaves open (spec/10_state.md section 10): POWERON_A, POWERON_X, POWERON_Y,
POWERON_MEM, the state of any devices, and the registers the spec leaves unspecified before the first reset. -/
structure PowerOn where
  a : Byte
  x : Byte
  y : Byte
  mem : Memory
  devices : List Nat
  sp : Byte
  pc : Addr
  c : Bool
  z : Bool
  i : Bool
  d : Bool
  v : Bool
  n : Bool
  iPoll : Bool
  cycles : CycleCount
  deriving DecidableEq, Repr

/-- The state after power-on, before the first reset (spec/70_reset_and_hazards.md R703). -/
def State.powerOn (p : PowerOn) : State where
  a := p.a
  x := p.x
  y := p.y
  sp := p.sp
  pc := p.pc
  flags := { c := p.c, z := p.z, i := p.i, d := p.d, b := false, v := p.v, n := p.n }
  iPoll := p.iPoll
  nmiPending := false
  irqPending := false
  run := .running
  cycles := p.cycles
  mem := p.mem
  devices := p.devices
  resetDone := false

/-- The accessor of the status byte, `PackP(B)` (R74, R57). The other accessors are fields of State. -/
def Driver.statusByte (s : State) : Byte := s.flags.pack s.flags.b

/-- `step()`'s return value (spec/40_execution.md R200, R221): what the step added to the cycle counter.
A refused step returns nothing (assumption 7). -/
def Driver.cyclesConsumed (s : State) : Option Nat :=
  match step s with
  | .next t => some (t.cycles - s.cycles).toNat
  | .fault _ => none
  | .refused _ => none

/-- What the driver can do to the machine (R74, R704). -/
inductive DriverCall where
  | reset
  | step
  | requestInterrupt (kind : InterruptKind)
  | load (a : Addr) (bytes : List Byte)
  deriving DecidableEq, Repr

/-- One call of the driver. -/
def Driver.call (c : DriverCall) (s : State) : Result :=
  match c with
  | .reset => .next (Driver.reset s)
  | .step => step s
  | .requestInterrupt kind => .next (Driver.requestInterrupt kind s)
  | .load a bytes => .next (s.loadBytes a bytes)

end Sys2Proof.Machine
end

