-- ==== Sys2Proof/Machine/AnyBus.lean ====
section
/-! DEFINITION. The core over any bus (spec/00_scope.md R9, spec/20_memory.md R103, R105, R106): the effect of each
mnemonic, an instruction and a step, with the bus as an argument. `exec` and `step` are these on the default
bus: `exec_eq_execOn` and `step_eq_stepOn` of Laws. -/

namespace Sys2Proof.Machine

/-- No effect, and no access. -/
def noEffect : Effect := plainEffect doNothing

/-- Read class, by the operand (spec/40_execution.md R218): an immediate is already fetched. -/
def readClass (f : Byte → State → State) (o : Operand) : Effect :=
  match o with
  | .immediate v => immEffect v f
  | .memory _ => readEffect f
  | .implied | .accumulator | .relative _ | .indirect _ => noEffect

/-- A shift or rotate, of A or of a byte of memory (R218). -/
def shiftClass (compute : Byte → Flags → Byte × Flags) (o : Operand) : Effect :=
  match o with
  | .accumulator => accEffect compute
  | .memory _ => rmwEffect compute keepResult
  | .implied | .immediate _ | .relative _ | .indirect _ => noEffect

/-- The effect of a mnemonic on an operand: the same shared operations that the meanings are made of. -/
def effectFor (mn : Mnemonic) (o : Operand) : Effect :=
  match mn with
  | .LDA => readClass loadA o
  | .LDX => readClass loadX o
  | .LDY => readClass loadY o
  | .ADC => readClass addToA o
  | .SBC => readClass subFromA o
  | .USBC => readClass subFromA o
  | .AND => readClass andA o
  | .ORA => readClass orA o
  | .EOR => readClass eorA o
  | .BIT => readClass bitTest o
  | .CMP => readClass compareA o
  | .CPX => readClass compareX o
  | .CPY => readClass compareY o
  | .LAX => readClass loadAX o
  | .LAS => readClass loadAndSp o
  | .ANC => readClass andCarry o
  | .ALR => readClass andShift o
  | .ARR => readClass andRotate o
  | .ANE => readClass andUnstable o
  | .LXA => readClass loadUnstable o
  | .SBX => readClass subFromAX o
  | .NOP => readClass discard o
  | .STA => storeEffect State.a
  | .STX => storeEffect State.x
  | .STY => storeEffect State.y
  | .SAX => storeEffect andOfAX
  | .ASL => shiftClass shiftLeft o
  | .LSR => shiftClass shiftRight o
  | .ROL => shiftClass rotateLeft o
  | .ROR => shiftClass rotateRight o
  | .INC => rmwEffect increment keepResult
  | .DEC => rmwEffect decrement keepResult
  | .SLO => rmwEffect shiftLeft orA
  | .RLA => rmwEffect rotateLeft andA
  | .SRE => rmwEffect shiftRight eorA
  | .RRA => rmwEffect rotateRight addToA
  | .DCP => rmwEffect decrementOnly compareA
  | .ISC => rmwEffect incrementOnly subFromA
  | .SHA => unstableEffect nothingFirst andOfAX
  | .SHX => unstableEffect nothingFirst State.x
  | .SHY => unstableEffect nothingFirst State.y
  | .TAS => unstableEffect spFromAX State.sp
  | .BPL => branchEffect (fun f => !f.n)
  | .BMI => branchEffect (fun f => f.n)
  | .BVC => branchEffect (fun f => !f.v)
  | .BVS => branchEffect (fun f => f.v)
  | .BCC => branchEffect (fun f => !f.c)
  | .BCS => branchEffect (fun f => f.c)
  | .BNE => branchEffect (fun f => !f.z)
  | .BEQ => branchEffect (fun f => f.z)
  | .JMP => jumpEffect jump
  | .JSR => jumpEffect callSubroutine
  | .RTS => stackEffect returnFromSubroutine
  | .TAX => plainEffect transferAX
  | .TAY => plainEffect transferAY
  | .TXA => plainEffect transferXA
  | .TYA => plainEffect transferYA
  | .TSX => plainEffect transferSX
  | .TXS => plainEffect transferXS
  | .INX => plainEffect incrementX
  | .INY => plainEffect incrementY
  | .DEX => plainEffect decrementX
  | .DEY => plainEffect decrementY
  | .PHA => stackEffect pushA
  | .PHP => stackEffect pushStatus
  | .PLA => stackEffect pullA
  | .PLP => stackEffect pullStatus
  | .CLC => plainEffect clearCarry
  | .SEC => plainEffect setCarry
  | .CLI => plainEffect clearMask
  | .SEI => plainEffect setMask
  | .CLD => plainEffect clearDecimal
  | .SED => plainEffect setDecimal
  | .CLV => plainEffect clearOverflow
  | .BRK => stackEffect softwareBreak
  | .RTI => stackEffect returnFromInterruptOn
  | .JAM => plainEffect haltCore

/-- An instruction on a bus: it completes on every bus (R101, spec/60_exceptions.md R600). -/
def execOn (bus : Bus) (i : Instr) (s : State) : State :=
  instructionOn bus i.opcode i.operand (effectFor i.mnemonic i.operand) s

/-- `step()` on a bus (spec/40_execution.md R200). -/
def stepOn (bus : Bus) (s : State) : Result :=
  match stepKind s with
  | .beforeReset => .refused .stepBeforeReset
  | .jammed => .next s
  | .nmi => .next (serviceNmiOn bus s)
  | .irq => .next (serviceIrqOn bus s)
  | .instruction => .next (execOn bus (fetchOn bus s).1 (fetchOn bus s).2)

end Sys2Proof.Machine
end

