-- ==== Sys2Proof/Machine/Accesses.lean ====
section
/-! DEFINITION. The bus accesses an instruction and a step make, in order (spec/20_memory.md R118, D12;
the access classes of spec/40_execution.md R218). On RAM the order of reads leaves no trace in the state,
so the sequence is a function beside the step (assumption 11). `recorder` is a bus on which the core's own
accesses do leave a trace, to hold the sequence against. -/

namespace Sys2Proof.Machine

/-- One bus access: one byte (R117). -/
inductive Access where
  | read (a : Addr)
  | write (a : Addr) (v : Byte)
  deriving DecidableEq, Repr

/-- Items 1 and 2 of R118: the opcode and the operand bytes, in address order, from the state whose PC is
at the opcode. -/
def fetchAccesses (i : Instr) (s : State) : List Access :=
  (List.range i.length).map (fun k => .read (s.pc + BitVec.ofNat 16 k))

/-- The two reads of a pointer in the zero page (R108). -/
def zpPointerAccesses (z : Byte) : List Access := [.read (zeroPage z), .read (zeroPage (z + 1#8))]

/-- Item 3 of R118: the pointer reads of the addressing mode, low byte then high byte. -/
def pointerAccesses (o : Operand) (s : State) : List Access :=
  match o with
  | .memory (.indirectX zp) => zpPointerAccesses (zp + s.x)
  | .memory (.indexed (.indirectY zp)) => zpPointerAccesses zp
  | .indirect ptr => [.read ptr, .read (jumpHighAt ptr)]
  | .implied | .accumulator | .immediate _ | .relative _ => []
  | .memory (.zeropage _) | .memory (.zeropageX _) | .memory (.zeropageY _) => []
  | .memory (.absolute _) | .memory (.indexed (.absoluteX _)) | .memory (.indexed (.absoluteY _)) => []

/-- Read class: one data read; an immediate operand's fetch is its data read (R118 item 4). -/
def readAt (o : Operand) (s : State) : List Access :=
  match o with
  | .memory m => [.read (effectiveAddr m s)]
  | .implied | .accumulator | .immediate _ | .relative _ | .indirect _ => []

/-- Store class: one write, no read. -/
def writeAt (o : Operand) (s : State) (v : Byte) : List Access :=
  match o with
  | .memory m => [.write (effectiveAddr m s) v]
  | .implied | .accumulator | .immediate _ | .relative _ | .indirect _ => []

/-- The unstable stores' one write (spec/47_undocumented.md R566). -/
def unstableAt (o : Operand) (s : State) (src : Byte) : List Access :=
  match o with
  | .memory (.indexed ix) =>
    let r := resolve (.memory (.indexed ix)) s
    [.write (unstableAddr src r) (unstableValue src r)]
  | .memory (.zeropage _) | .memory (.zeropageX _) | .memory (.zeropageY _) => []
  | .memory (.absolute _) | .memory (.indirectX _) => []
  | .implied | .accumulator | .immediate _ | .relative _ | .indirect _ => []

/-- Read-modify-write class: one read, then one write of the result. A register form makes neither. -/
def modifyAt (o : Operand) (s : State) (compute : Byte → Flags → Byte × Flags) : List Access :=
  match o with
  | .memory m =>
    let ea := effectiveAddr m s
    [.read ea, .write ea (compute (s.read ea) s.flags).1]
  | .implied | .accumulator | .immediate _ | .relative _ | .indirect _ => []

/-- Pushes of bytes, in order, from a stack pointer on (R112). -/
def pushAccesses (sp : Byte) : List Byte → List Access
  | [] => []
  | v :: rest => .write (stackAddr sp) v :: pushAccesses (sp - 1#8) rest

/-- `n` pulls from a stack pointer on (R113). -/
def pullAccesses (sp : Byte) : Nat → List Access
  | 0 => []
  | n + 1 => .read (stackAddr (sp + 1#8)) :: pullAccesses (sp + 1#8) n

/-- An entry's accesses: three pushes and two vector reads (R118, spec/60_exceptions.md R605). -/
def entryAccesses (breakBit : Bool) (vector : Addr) (s : State) : List Access :=
  pushAccesses s.sp [highByte s.pc, lowByte s.pc, s.flags.pack breakBit]
    ++ [.read vector, .read (vector + 1#16)]

/-- Items 4 and 5 of R118, by mnemonic, from the state after the fetches. -/
def dataAccesses (mnemonic : Mnemonic) (o : Operand) (s : State) : List Access :=
  match mnemonic with
  | .LDA | .LDX | .LDY | .ADC | .SBC | .AND | .ORA | .EOR | .BIT | .CMP | .CPX | .CPY => readAt o s
  | .LAX | .LAS | .ANC | .ALR | .ARR | .ANE | .LXA | .SBX | .USBC | .NOP => readAt o s
  | .STA => writeAt o s s.a
  | .STX => writeAt o s s.x
  | .STY => writeAt o s s.y
  | .SAX => writeAt o s (s.a &&& s.x)
  | .SHA => unstableAt o s (s.a &&& s.x)
  | .SHX => unstableAt o s s.x
  | .SHY => unstableAt o s s.y
  | .TAS => unstableAt o s (s.a &&& s.x)
  | .ASL | .SLO => modifyAt o s shiftLeft
  | .LSR | .SRE => modifyAt o s shiftRight
  | .ROL | .RLA => modifyAt o s rotateLeft
  | .ROR | .RRA => modifyAt o s rotateRight
  | .INC | .ISC => modifyAt o s increment
  | .DEC | .DCP => modifyAt o s decrement
  | .PHA => pushAccesses s.sp [s.a]
  | .PHP => pushAccesses s.sp [s.flags.pack true]
  | .PLA | .PLP => pullAccesses s.sp 1
  | .JSR => pushAccesses s.sp [highByte (s.pc - 1#16), lowByte (s.pc - 1#16)]
  | .RTS => pullAccesses s.sp 2
  | .RTI => pullAccesses s.sp 3
  | .BRK => entryAccesses true irqVector (s.advance 1)
  | .TAX | .TAY | .TXA | .TYA | .TSX | .TXS | .INX | .INY | .DEX | .DEY => []
  | .CLC | .SEC | .CLI | .SEI | .CLD | .SED | .CLV | .JAM => []
  | .JMP | .BPL | .BMI | .BVC | .BVS | .BCC | .BCS | .BNE | .BEQ => []

/-- The accesses of an instruction after its fetches. -/
def executionAccesses (i : Instr) (s : State) : List Access :=
  let fetched := s.advance i.length
  pointerAccesses i.operand fetched ++ dataAccesses i.mnemonic i.operand fetched

/-- The accesses of an instruction (R118). -/
def instrAccesses (i : Instr) (s : State) : List Access := fetchAccesses i s ++ executionAccesses i s

/-- The accesses of a step (R118): none when jammed or refused. -/
def stepAccesses (s : State) : List Access :=
  match stepKind s with
  | .beforeReset => []
  | .jammed => []
  | .nmi => entryAccesses false nmiVector s
  | .irq => entryAccesses false irqVector s
  | .instruction => instrAccesses (fetchInstr s) s

/-- The accesses of `reset()` (spec/70_reset_and_hazards.md R701): the vector's two bytes, and no write. -/
def resetAccesses : List Access := [.read resetVector, .read (resetVector + 1#16)]

/-- The addresses a sequence reads. -/
def readAddrs : List Access → List Addr
  | [] => []
  | .read a :: rest => a :: readAddrs rest
  | .write _ _ :: rest => readAddrs rest

/-- A memory after a sequence's writes, in order. -/
def replayWrites : List Access → Memory → Memory
  | [], m => m
  | .read _ :: rest, m => replayWrites rest m
  | .write a v :: rest, m => replayWrites rest (m.write a.toNat v)

/-! ## A bus that records -/

/-- An access as a number: a read below 65536, a write at or above it. -/
def Access.code : Access → Nat
  | .read a => a.toNat
  | .write a v => 65536 + 256 * a.toNat + v.toNat

/-- A sequence as a device's state: the last access first. -/
def recorded (accesses : List Access) (before : List Nat) : List Nat :=
  (accesses.reverse.map Access.code) ++ before

/-- RAM that writes down each access in the devices' state. -/
def recordingRam : Device where
  read a b := (Memory.read b.mem a.toNat, { b with devices := (Access.read a).code :: b.devices })
  write a v b := { mem := Memory.write b.mem a.toNat v, devices := (Access.write a v).code :: b.devices }

/-- The bus with recording RAM at every address. -/
def recorder : Bus where
  route _ := some recordingRam

end Sys2Proof.Machine
end

