-- ==== Sys2Proof/Safety.lean ====
section
/-! DEFINITION. The terms the statements are written in: the invariant of a state, what a form's operand
byte and store address are, which parts of the state a mnemonic may write (the "Flags written" and
"written by" lists of the spec), and what an interrupt entry and a step's cycle count are. No meaning
uses anything of this file. -/

namespace Sys2Proof.Machine

/-- What holds at reset and after every step: the memory is in canonical form, and the stored B is 0
(spec/10_state.md R64). -/
def State.Inv (s : State) : Prop := s.mem.wf ∧ s.flags.b = false

/-- The state once the instruction's bytes are fetched: PC is at the byte after it (R204). -/
def afterFetch (i : Instr) (s : State) : State := s.advance i.length

/-- `m` is the data byte of a read-class or memory read-modify-write form (spec/40_execution.md R218):
the immediate byte, or the byte at the effective address. -/
def OperandByte (i : Instr) (s : State) (m : Byte) : Prop :=
  match i.operand with
  | .immediate v => m = v
  | .memory o => m = (afterFetch i s).read (effectiveAddr o (afterFetch i s))
  | .implied | .accumulator | .relative _ | .indirect _ => False

/-- `ea` is the effective address of a form that names a byte of memory. -/
def EffectiveAddr (i : Instr) (s : State) (ea : Addr) : Prop :=
  match i.operand with
  | .memory o => ea = effectiveAddr o (afterFetch i s)
  | .implied | .accumulator | .immediate _ | .relative _ | .indirect _ => False

/-- Every byte of memory reads as before, but the one at `ea`, which reads as `v`. -/
def StoresOnly (s t : State) (ea : Addr) (v : Byte) : Prop :=
  t.read ea = v ∧ ∀ a, a ≠ ea → t.read a = s.read a

/-- Every byte of memory reads as before. -/
def StoresNothing (s t : State) : Prop := ∀ a, t.read a = s.read a

/-- Every byte of memory outside two addresses reads as before. -/
def KeepsOutside2 (s t : State) (p q : Addr) : Prop := ∀ a, a ≠ p → a ≠ q → t.read a = s.read a

/-! ## What a mnemonic may write -/

/-- A set of flags. -/
structure FlagSet where
  c : Bool := false
  z : Bool := false
  i : Bool := false
  d : Bool := false
  b : Bool := false
  v : Bool := false
  n : Bool := false
  deriving DecidableEq, Repr

/-- The "Flags written" line of each rule R250 to R573. -/
def writtenFlags : Mnemonic → FlagSet
  | .LDA | .LDX | .LDY | .TAX | .TAY | .TXA | .TYA | .TSX => { n := true, z := true }
  | .AND | .ORA | .EOR | .INC | .DEC | .INX | .INY | .DEX | .DEY | .PLA => { n := true, z := true }
  | .LAX | .LAS | .ANE | .LXA => { n := true, z := true }
  | .ADC | .SBC | .USBC | .RRA | .ISC | .ARR => { n := true, v := true, z := true, c := true }
  | .CMP | .CPX | .CPY | .DCP | .SBX => { n := true, z := true, c := true }
  | .ASL | .LSR | .ROL | .ROR | .SLO | .RLA | .SRE | .ANC | .ALR => { n := true, z := true, c := true }
  | .BIT => { n := true, v := true, z := true }
  | .PLP | .RTI => { n := true, v := true, d := true, i := true, z := true, c := true, b := true }
  | .CLC | .SEC => { c := true }
  | .CLI | .SEI | .BRK => { i := true }
  | .CLD | .SED => { d := true }
  | .CLV => { v := true }
  | .STA | .STX | .STY | .SAX | .SHA | .SHX | .SHY | .TAS | .TXS => {}
  | .BPL | .BMI | .BVC | .BVS | .BCC | .BCS | .BNE | .BEQ | .JMP | .JSR | .RTS => {}
  | .PHA | .PHP | .NOP | .JAM => {}

/-- The flags outside the set are the same in both. -/
def Flags.SameOutside (w : FlagSet) (f g : Flags) : Prop :=
  (w.c = false → g.c = f.c) ∧ (w.z = false → g.z = f.z) ∧ (w.i = false → g.i = f.i) ∧
  (w.d = false → g.d = f.d) ∧ (w.b = false → g.b = f.b) ∧ (w.v = false → g.v = f.v) ∧
  (w.n = false → g.n = f.n)

/-- The mnemonic's rule writes A in some form (spec/10_state.md R51). -/
def writesA (mn : Mnemonic) : Bool :=
  mn ∈ [.LDA, .TXA, .TYA, .PLA, .ADC, .SBC, .AND, .ORA, .EOR, .ASL, .LSR, .ROL, .ROR, .SLO, .RLA, .SRE,
    .RRA, .LAX, .ISC, .ANC, .ALR, .ARR, .ANE, .LXA, .USBC, .LAS]

/-- The mnemonic's rule writes X (spec/10_state.md R52). -/
def writesX (mn : Mnemonic) : Bool :=
  mn ∈ [.LDX, .TAX, .TSX, .INX, .DEX, .LAX, .LXA, .SBX, .LAS]

/-- The mnemonic's rule writes Y (spec/10_state.md R53). -/
def writesY (mn : Mnemonic) : Bool := mn ∈ [.LDY, .TAY, .INY, .DEY]

/-- The mnemonic's rule writes SP (spec/10_state.md R54). -/
def writesSP (mn : Mnemonic) : Bool :=
  mn ∈ [.TXS, .PHA, .PHP, .PLA, .PLP, .JSR, .RTS, .RTI, .BRK, .LAS, .TAS]

/-- The mnemonic's rule writes PC itself (spec/10_state.md R55). -/
def writesPC (mn : Mnemonic) : Bool :=
  mn ∈ [.BPL, .BMI, .BVC, .BVS, .BCC, .BCS, .BNE, .BEQ, .JMP, .JSR, .RTS, .RTI, .BRK]

/-- The form makes a write to memory: the store and read-modify-write classes, and the pushes
(spec/40_execution.md R218). -/
def storesToMemory (i : Instr) : Bool :=
  i.operand != .accumulator &&
  i.mnemonic ∈ [.STA, .STX, .STY, .SAX, .SHA, .SHX, .SHY, .TAS, .ASL, .LSR, .ROL, .ROR, .INC, .DEC, .SLO,
    .RLA, .SRE, .RRA, .DCP, .ISC, .PHA, .PHP, .JSR, .BRK]

/-! ## Branches and cycles -/

/-- The condition of each branch (spec/44_control_flow.md R401 to R408); nothing else branches. -/
def branchTaken (mn : Mnemonic) (f : Flags) : Bool :=
  (mn == .BPL && !f.n) || (mn == .BMI && f.n) || (mn == .BVC && !f.v) || (mn == .BVS && f.v) ||
  (mn == .BCC && !f.c) || (mn == .BCS && f.c) || (mn == .BNE && !f.z) || (mn == .BEQ && f.z)

/-- `n = base + page_penalty + branch_extra` (spec/40_execution.md R219). -/
def instrCycles (i : Instr) (s : State) : Nat :=
  let crossed := (resolve i.operand (afterFetch i s)).crossed
  (descriptor i.opcode).base
    + (if (descriptor i.opcode).penalty && crossed then 1 else 0)
    + (if branchTaken i.mnemonic s.flags then (if crossed then 2 else 1) else 0)

/-- What a step returns (R219, R200): nothing when refused. -/
def stepCycles (s : State) : Option Nat :=
  match stepKind s with
  | .beforeReset => none
  | .jammed => some 0
  | .nmi => some 7
  | .irq => some 7
  | .instruction => some (instrCycles (fetchInstr s) s)

/-- The cycle counter after an instruction: the count is added modulo 2^64 (R221). -/
def cyclesAfter (i : Instr) (s : State) : BitVec 64 := s.cycles + BitVec.ofNat 64 (instrCycles i s)

/-! ## Addressing -/

/-- Whatever the opcode at PC with this mode: its bytes are fetched from PC on, and the Addressing Mode Result
(R203) is the one given, in terms of the state before the fetch. -/
def ResolvesTo (mode : Mode) (bytes : Nat) (result : State → Resolved) : Prop :=
  ∀ s : State, (descriptor (s.read s.pc)).mode = mode →
    afterFetch (fetchInstr s) s = { s with pc := s.pc + BitVec.ofNat 16 bytes } ∧
    resolve (fetchInstr s).operand (afterFetch (fetchInstr s) s) = result s

/-! ## The forms of a mnemonic -/

/-- One entry of an "Encoding" line of the rules R250 to R573: opcode, mode, bytes, base cycles, and whether
the page-cross penalty `+p` applies. -/
structure Form where
  opcode : Byte
  mode : Mode
  bytes : Nat
  cycles : Nat
  plusPage : Bool
  deriving DecidableEq, Repr

/-- What the decoder and the descriptor table say of one opcode byte. -/
def formOfOpcode (n : Nat) : Mnemonic × Form :=
  let i := decodeAt (fun k => if k = 0 then BitVec.ofNat 8 n else 0#8)
  (i.mnemonic, ⟨BitVec.ofNat 8 n, i.operand.mode, i.length, (descriptor (BitVec.ofNat 8 n)).base,
    (descriptor (BitVec.ofNat 8 n)).penalty⟩)

/-- The forms of a mnemonic: the opcode bytes that decode to it, in order. -/
def formsOf (mn : Mnemonic) : List Form :=
  (List.range 256).filterMap fun n =>
    if (formOfOpcode n).1 = mn then some (formOfOpcode n).2 else none

/-! ## An interrupt entry -/

/-- `t` is `s` after the entry sequence (spec/60_exceptions.md R605) with return address `ret`: the three
pushed bytes and nothing else of memory, SP, I, I_poll and PC; everything else as it was, but the latches and
the cycle counter, which the step that enters accounts for. -/
def Entered (breakBit : Bool) (vector ret : Addr) (s t : State) : Prop :=
  t.read (stackAddr s.sp) = highByte ret ∧
  t.read (stackAddr (s.sp - 1#8)) = lowByte ret ∧
  t.read (stackAddr (s.sp - 2#8)) = s.flags.pack breakBit ∧
  (∀ a, a ≠ stackAddr s.sp → a ≠ stackAddr (s.sp - 1#8) → a ≠ stackAddr (s.sp - 2#8) → t.read a = s.read a) ∧
  t = { s with
    sp := s.sp - 3#8
    flags := { s.flags with i := true }
    iPoll := true
    pc := word16 (s.read vector) (s.read (vector + 1#16))
    nmiPending := t.nmiPending
    irqPending := t.irqPending
    cycles := t.cycles
    mem := t.mem }

end Sys2Proof.Machine
end

