-- ==== Sys2Proof/Certificates/Slice0/Obligations.lean ====
section
/-! DEFINITION. The statements for the provers. Each names the rules of spec/ it rests on. A statement
about a mnemonic holds for every constructor of Instr that spells it (Instr.view), so for every form; a clause
`formsOf .M = [...]` is M's "Encoding" line, in the order of the opcodes. -/

open Sys2Proof Sys2Proof.Machine

/-! ## Reset, requests, and what a step is -/

/-- R701: what `reset()` leaves, from any state, and the two reads it makes, as the recording bus sees them
(assumption 11). It also leaves `resetDone`, the model's own field (assumption 3), set, which is what the
statements about later steps ask for, and the devices' state, of which this hardware has none, alone
(assumption 5). -/
def Obligations.ResetCallLeavesTheSpecsValues : Prop :=
  ∀ s : State,
    (Driver.reset s).pc = word16 (s.read 0xFFFC#16) (s.read 0xFFFD#16) ∧
    (Driver.reset s).sp = 0xFD#8 ∧
    (Driver.reset s).flags =
      { c := false, z := false, d := false, v := false, n := false, b := false, i := true } ∧
    (Driver.reset s).iPoll = true ∧
    (Driver.reset s).nmiPending = false ∧ (Driver.reset s).irqPending = false ∧
    (Driver.reset s).run = .running ∧
    (Driver.reset s).cycles = 7#64 ∧
    (Driver.reset s).a = s.a ∧ (Driver.reset s).x = s.x ∧ (Driver.reset s).y = s.y ∧
    (Driver.reset s).mem = s.mem ∧
    (Driver.reset s).devices = s.devices ∧
    (Driver.reset s).resetDone = true ∧
    resetAccesses = [.read 0xFFFC#16, .read 0xFFFD#16] ∧
    Driver.resetOn recorder s = { Driver.reset s with devices := recorded resetAccesses s.devices }

/-- R602: a request sets its latch and changes nothing else. -/
def Obligations.RequestSetsOnlyItsLatch : Prop :=
  ∀ s : State,
    Driver.requestInterrupt .nonMaskable s = { s with nmiPending := true } ∧
    Driver.requestInterrupt .maskable s = { s with irqPending := true }

/-- R703, D17: what power-on leaves, and that a step before the first reset is refused; a request there only
sets its latch, and the first reset clears it. Which states are before the first reset is told by
`resetDone`, the model's own field (assumption 3). -/
def Obligations.StepBeforeTheFirstResetIsRefused : Prop :=
  ∀ p : PowerOn,
    let s := State.powerOn p
    s.a = p.a ∧ s.x = p.x ∧ s.y = p.y ∧ s.mem = p.mem ∧ s.nmiPending = false ∧ s.irqPending = false ∧
    s.flags.b = false ∧
    step s = .refused .stepBeforeReset ∧
    ∀ kind, step (Driver.requestInterrupt kind s) = .refused .stepBeforeReset ∧
      Driver.reset (Driver.requestInterrupt kind s) = Driver.reset s

/-- R573, R200: a step in the Jammed state returns 0, makes no access on any bus and changes nothing, requests
or not; a reset leaves the Jammed state. The premise `resetDone` is assumption 3, the returned value
assumption 7, the list of accesses assumption 11. -/
def Obligations.JammedStepChangesNothing : Prop :=
  ∀ s : State, s.resetDone = true → s.run = .jammed →
    step s = .next s ∧ Driver.cyclesConsumed s = some 0 ∧ stepAccesses s = [] ∧
    (∀ bus, stepOn bus s = .next s) ∧
    (∀ kind, step (Driver.requestInterrupt kind s) = .next (Driver.requestInterrupt kind s)) ∧
    (Driver.reset s).run = .running

/-- R605, R604, R602: with an NMI pending the step is the NMI entry, whatever I_poll and an IRQ say; with
only an IRQ pending and I_poll clear it is the IRQ entry. The latch of the serviced request is cleared and
no other, bit 4 of the pushed status is 0, and the entry counts 7 cycles. BRK runs the same sequence in its own
step, with bit 4 as 1 and the address past its signature byte. R57, R74: the bits of the byte that is pushed,
`PackP` of a given bit 4, and of the status byte that the driver reads, `PackP(B)`. The premise `resetDone` is
assumption 3. -/
def Obligations.PendingInterruptIsEntered : Prop :=
  (∀ s : State, s.resetDone = true → s.run = .running →
    (s.nmiPending = true →
      ∃ t, step s = .next t ∧ Entered false 0xFFFA#16 s.pc s t ∧ t.nmiPending = false ∧
        t.irqPending = s.irqPending ∧ t.cycles = s.cycles + 7#64) ∧
    (s.nmiPending = false → s.irqPending = true → s.iPoll = false →
      ∃ t, step s = .next t ∧ Entered false 0xFFFE#16 s.pc s t ∧ t.nmiPending = false ∧
        t.irqPending = false ∧ t.cycles = s.cycles + 7#64) ∧
    (∃ t, exec .brk s = .next t ∧ Entered true 0xFFFE#16 (s.pc + 2#16) s t ∧ t.cycles = s.cycles + 7#64)) ∧
  (∀ (f : Flags) (bit4 : Bool),
    let p := f.pack bit4
    p.getLsbD 7 = f.n ∧ p.getLsbD 6 = f.v ∧ p.getLsbD 5 = true ∧ p.getLsbD 4 = bit4 ∧ p.getLsbD 3 = f.d ∧
      p.getLsbD 2 = f.i ∧ p.getLsbD 1 = f.z ∧ p.getLsbD 0 = f.c) ∧
  (∀ s : State,
    let p := Driver.statusByte s
    p.getLsbD 7 = s.flags.n ∧ p.getLsbD 6 = s.flags.v ∧ p.getLsbD 5 = true ∧ p.getLsbD 4 = s.flags.b ∧
      p.getLsbD 3 = s.flags.d ∧ p.getLsbD 2 = s.flags.i ∧ p.getLsbD 1 = s.flags.z ∧ p.getLsbD 0 = s.flags.c)

/-- R603: a masked IRQ is not serviced and stays pending while the instruction runs. The premise `resetDone` is
assumption 3. -/
def Obligations.MaskedIrqStaysPending : Prop :=
  ∀ s : State, s.resetDone = true → s.run = .running → s.nmiPending = false → s.irqPending = true →
    s.iPoll = true → ∃ t, step s = .next t ∧ exec (fetchInstr s) s = .next t ∧ t.irqPending = true

/-- R200, R201 to R204: when nothing is to be serviced and the bytes at PC decode to a well-formed
instruction, the step is that instruction's `exec`, at that state. `exec` itself moves PC past the bytes. The
premise `resetDone` is assumption 3. -/
def Obligations.StepRunsTheInstructionAtPC : Prop :=
  ∀ (s : State) (i : Instr) (rest : List Byte),
    s.resetDone = true → s.run = .running → s.nmiPending = false →
    (s.irqPending = false ∨ s.iPoll = true) →
    decode [s.read s.pc, s.read (s.pc + 1#16), s.read (s.pc + 2#16)] = .instr i rest →
    i.wellFormed = true → step s = exec i s

/-! ## Encoding -/

/-- R150 to R154: decoding the bytes of a well-formed instruction gives it back, whatever follows. -/
def Obligations.DecodeOfEncodeIsTheInstruction : Prop :=
  ∀ (i : Instr) (rest : List Byte), i.wellFormed = true → decode (encode i ++ rest) = .instr i rest

/-- R153, R157: every byte string that starts with an opcode and is long enough decodes, to a well-formed
instruction whose encoding is exactly the bytes that were taken. -/
def Obligations.EncodeOfDecodeIsTheBytes : Prop :=
  (∀ (opcode b1 b2 : Byte) (rest : List Byte),
    ∃ i rest', decode (opcode :: b1 :: b2 :: rest) = .instr i rest') ∧
  (∀ (bytes : List Byte) (i : Instr) (rest : List Byte), decode bytes = .instr i rest →
    i.wellFormed = true ∧ encode i ++ rest = bytes)

/-- R153, R154: the descriptor of an opcode byte has the mnemonic and the mode of the instruction that
byte decodes to, and the byte is that instruction's opcode: one row per byte. -/
def Obligations.DescriptorAgreesWithDecoding : Prop :=
  ∀ byteAt : Nat → Byte,
    (descriptor (byteAt 0)).mnemonic = (decodeAt byteAt).mnemonic ∧
    (descriptor (byteAt 0)).mode = (decodeAt byteAt).operand.mode ∧
    (decodeAt byteAt).opcode = byteAt 0

/-- R154: one word of each family, written out from the table. -/
def Obligations.WordsOfTheTableDecode : Prop :=
  decode [0xA9#8, 0x80#8] = .instr (.ldaImm 0x80#8) [] ∧
  decode [0x8D#8, 0x00#8, 0x02#8] = .instr (.staAbs 0x0200#16) [] ∧
  decode [0x71#8, 0x10#8] = .instr (.adcIndY 0x10#8) [] ∧
  decode [0x1E#8, 0xFF#8, 0x12#8] = .instr (.aslAbsX 0x12FF#16) [] ∧
  decode [0xD0#8, 0xFD#8] = .instr (.bne (-3)) [] ∧
  decode [0x6C#8, 0xFF#8, 0x30#8] = .instr (.jmpInd 0x30FF#16) [] ∧
  decode [0x28#8] = .instr .plp [] ∧
  decode [0xA3#8, 0xFE#8] = .instr (.laxIndX 0xFE#8) [] ∧
  decode [0x02#8] = .instr .jam02 []

/-- R220: the opcodes that take the page-cross penalty: these 32, which are the read-class forms of the modes
absolute-X, absolute-Y and indirect-Y. -/
def Obligations.PenaltyOpcodesAreTheSpecsList : Prop :=
  (∀ op : Byte, (descriptor op).penalty = true ↔
    op ∈ [0x11#8, 0x19#8, 0x1C#8, 0x1D#8, 0x31#8, 0x39#8, 0x3C#8, 0x3D#8, 0x51#8, 0x59#8, 0x5C#8, 0x5D#8,
      0x71#8, 0x79#8, 0x7C#8, 0x7D#8, 0xB1#8, 0xB3#8, 0xB9#8, 0xBB#8, 0xBC#8, 0xBD#8, 0xBE#8, 0xBF#8,
      0xD1#8, 0xD9#8, 0xDC#8, 0xDD#8, 0xF1#8, 0xF9#8, 0xFC#8, 0xFD#8]) ∧
  (∀ i : Instr, (descriptor i.opcode).penalty = true ↔
    i.mnemonic ∈ [.LDA, .LDX, .LDY, .ADC, .SBC, .AND, .ORA, .EOR, .BIT, .CMP, .CPX, .CPY, .LAX, .LAS, .ANC,
      .ALR, .ARR, .ANE, .LXA, .SBX, .USBC, .NOP] ∧
    i.operand.mode ∈ [.absoluteX, .absoluteY, .indirectY])

/-! ## Whole-machine rules -/

/-- The invariant holds right after reset. -/
def Obligations.ResetHasTheInvariant : Prop := State.reset.Inv

/-- R64 and the canonical form of memory (assumption 2): every step keeps the invariant. -/
def Obligations.StepKeepsTheInvariant : Prop :=
  ∀ s t : State, s.Inv → step s = .next t → t.Inv

/-- R600, R101: once reset (`resetDone`, assumption 3), every step completes, whatever the opcode, the addresses
and the data: on this hardware, and on every bus of assumption 5. -/
def Obligations.EveryStepAfterResetCompletes : Prop :=
  ∀ s : State, s.resetDone = true →
    (∃ t, step s = .next t ∧ t.resetDone = true) ∧
    ∀ bus, ∃ t, stepOn bus s = .next t ∧ t.resetDone = true

/-- R219, R200, R221: what a step returns, and that it is what the step adds to the cycle counter. That the
returned value is read off the counter is the model's (assumption 7). -/
def Obligations.StepReturnsAndCountsItsCycles : Prop :=
  ∀ s t : State, step s = .next t →
    ∃ n, stepCycles s = some n ∧ Driver.cyclesConsumed s = some n ∧ t.cycles = s.cycles + BitVec.ofNat 64 n

/-- R56: an instruction never touches a flag outside its "Flags written" set. -/
def Obligations.FlagsOutsideTheWrittenSetAreKept : Prop :=
  ∀ (i : Instr) (s t : State), exec i s = .next t →
    Flags.SameOutside (writtenFlags i.mnemonic) s.flags t.flags

/-- R51 to R54: only the instructions each rule lists write A, X, Y and SP. -/
def Obligations.RegistersAreWrittenOnlyByTheirWriters : Prop :=
  ∀ (i : Instr) (s t : State), exec i s = .next t →
    (writesA i.mnemonic = false → t.a = s.a) ∧ (writesX i.mnemonic = false → t.x = s.x) ∧
    (writesY i.mnemonic = false → t.y = s.y) ∧ (writesSP i.mnemonic = false → t.sp = s.sp)

/-- R55: after an instruction that does not write PC, PC is at the byte after it, wrapping at the top. -/
def Obligations.OtherInstructionsGoToTheNext : Prop :=
  ∀ (i : Instr) (s t : State), exec i s = .next t → writesPC i.mnemonic = false →
    t.pc = s.pc + BitVec.ofNat 16 i.length

/-- R218: an instruction of the read, register or control class without a push changes no byte. -/
def Obligations.NonStoringInstructionsKeepEveryByte : Prop :=
  ∀ (i : Instr) (s t : State), exec i s = .next t → storesToMemory i = false → StoresNothing s t

/-- R66: I_poll after an instruction, an interrupt entry and a reset; no instruction reads it. -/
def Obligations.PollFollowsTheMaskOneStepLate : Prop :=
  (∀ (i : Instr) (s t : State), exec i s = .next t →
    t.iPoll = if i.opcode = 0x58#8 ∨ i.opcode = 0x78#8 ∨ i.opcode = 0x28#8 then s.flags.i else t.flags.i) ∧
  (∀ (breakBit : Bool) (vector : Addr) (s : State), (interruptEntry breakBit vector s).iPoll = true) ∧
  (∀ s : State, (Driver.reset s).iPoll = true) ∧
  (∀ (i : Instr) (s : State) (b : Bool), exec i { s with iPoll := b } = exec i s)

/-- R67, R68, R69: no instruction touches a latch, and only JAM changes the run state. Nor does one touch
`resetDone`, the model's own field (assumption 3), or the devices' state, of which the default bus has none
(assumption 5). -/
def Obligations.InstructionsKeepLatchesAndOnlyJamHalts : Prop :=
  ∀ (i : Instr) (s t : State), exec i s = .next t →
    t.nmiPending = s.nmiPending ∧ t.irqPending = s.irqPending ∧ t.resetDone = s.resetDone ∧
    t.devices = s.devices ∧
    t.run = if i.mnemonic = .JAM then .jammed else s.run

/-- R118: the accesses an instruction makes after its fetches are all it takes from memory and all it does
to it: over any memory that agrees at the addresses it reads, it gives the same registers, and the memory
is the old one with its writes made, in order. And they are the accesses that a bus sees, in order: on the
bus that records each access, under a number of its own, an instruction and a step leave the listed accesses,
and else what they leave on RAM. The lists are functions beside the step (assumption 11), the recording bus a
bus of assumption 5. -/
def Obligations.AccessesAreTheWholeUseOfMemory : Prop :=
  (∀ (i : Instr) (s t : State) (m : Memory), exec i s = .next t →
    (∀ a ∈ readAddrs (executionAccesses i s), ({ s with mem := m } : State).read a = s.read a) →
    exec i { s with mem := m } = .next { t with mem := replayWrites (executionAccesses i s) m }) ∧
  (∀ (i : Instr) (s t : State), exec i s = .next t →
    execOn recorder i s = { t with devices := recorded (executionAccesses i s) s.devices }) ∧
  (∀ s t : State, step s = .next t →
    stepOn recorder s = .next { t with devices := recorded (stepAccesses s) s.devices }) ∧
  (∀ p q : Access, p.code = q.code → p = q)

/-- R218, D12: each access class fixes the data accesses: one read at the effective address (an immediate's
fetch is its read); one write and no read, at the effective address but for the unstable stores; one read
and then one write there; none; or the pushes, the pulls and BRK's vector reads that the rule of the
mnemonic lists, and none for JMP and the branches, which have no push and no pull. The lists of accesses are
functions beside the step (assumption 11); AccessesAreTheWholeUseOfMemory ties them to it. -/
def Obligations.AccessClassesFixTheDataAccesses : Prop :=
  ∀ (i : Instr) (s : State),
    let accesses := dataAccesses i.mnemonic i.operand (afterFetch i s)
    (i.mnemonic ∈ [.LDA, .LDX, .LDY, .ADC, .SBC, .AND, .ORA, .EOR, .BIT, .CMP, .CPX, .CPY, .LAX, .LAS, .ANC,
        .ALR, .ARR, .ANE, .LXA, .SBX, .USBC] ∨ (i.mnemonic = .NOP ∧ i.operand ≠ .implied) →
      (∃ ea, EffectiveAddr i s ea ∧ accesses = [.read ea]) ∨
        ((∃ v, i.operand = .immediate v) ∧ accesses = [])) ∧
    (i.mnemonic ∈ [.STA, .STX, .STY, .SAX] → ∃ ea v, EffectiveAddr i s ea ∧ accesses = [.write ea v]) ∧
    (i.mnemonic ∈ [.SHA, .SHX, .SHY, .TAS] → ∃ a v, accesses = [.write a v]) ∧
    (i.mnemonic ∈ [.ASL, .LSR, .ROL, .ROR, .INC, .DEC, .SLO, .RLA, .SRE, .RRA, .DCP, .ISC] →
      (∃ ea v, EffectiveAddr i s ea ∧ accesses = [.read ea, .write ea v]) ∨
        (i.operand = .accumulator ∧ accesses = [])) ∧
    (i.mnemonic ∈ [.TAX, .TAY, .TXA, .TYA, .TSX, .TXS, .INX, .INY, .DEX, .DEY, .CLC, .SEC, .CLI, .SEI, .CLD,
        .SED, .CLV, .JAM] ∨ (i.mnemonic = .NOP ∧ i.operand = .implied) → accesses = []) ∧
    (i.mnemonic ∈ [.JMP, .BPL, .BMI, .BVC, .BVS, .BCC, .BCS, .BNE, .BEQ] → accesses = []) ∧
    (i.mnemonic = .PHA → accesses = [.write (stackAddr s.sp) s.a]) ∧
    (i.mnemonic = .PHP → accesses = [.write (stackAddr s.sp) (s.flags.pack true)]) ∧
    (i.mnemonic ∈ [.PLA, .PLP] → accesses = [.read (stackAddr (s.sp + 1#8))]) ∧
    (i.mnemonic = .JSR → accesses =
      [.write (stackAddr s.sp) (highByte (s.pc + 2#16)), .write (stackAddr (s.sp - 1#8)) (lowByte (s.pc + 2#16))]) ∧
    (i.mnemonic = .RTS → accesses = [.read (stackAddr (s.sp + 1#8)), .read (stackAddr (s.sp + 2#8))]) ∧
    (i.mnemonic = .RTI → accesses =
      [.read (stackAddr (s.sp + 1#8)), .read (stackAddr (s.sp + 2#8)), .read (stackAddr (s.sp + 3#8))]) ∧
    (i.mnemonic = .BRK → accesses =
      [.write (stackAddr s.sp) (highByte (s.pc + 2#16)), .write (stackAddr (s.sp - 1#8)) (lowByte (s.pc + 2#16)),
        .write (stackAddr (s.sp - 2#8)) (s.flags.pack true), .read 0xFFFE#16, .read 0xFFFF#16])

/-! ## Addressing modes and the bus -/

/-- R205 to R210, R212: the modes without a pointer and without an index over 16 bits, from the bytes at PC to the
effective address and the PC after the fetches. -/
def Obligations.PlainModesResolveAsStated : Prop :=
  ResolvesTo .implied 1 (fun _ => ⟨none, false, none⟩) ∧
  ResolvesTo .accumulator 1 (fun _ => ⟨none, false, none⟩) ∧
  ResolvesTo .immediate 2 (fun s => ⟨some (s.pc + 1#16), false, none⟩) ∧
  ResolvesTo .zeropage 2 (fun s => ⟨some (BitVec.setWidth 16 (s.read (s.pc + 1#16))), false, none⟩) ∧
  ResolvesTo .zeropageX 2 (fun s => ⟨some (BitVec.setWidth 16 (s.read (s.pc + 1#16) + s.x)), false, none⟩) ∧
  ResolvesTo .zeropageY 2 (fun s => ⟨some (BitVec.setWidth 16 (s.read (s.pc + 1#16) + s.y)), false, none⟩) ∧
  ResolvesTo .absolute 3 (fun s => ⟨some (s.read (s.pc + 2#16) ++ s.read (s.pc + 1#16)), false, none⟩) ∧
  (∀ i : Instr, i.operand.mode = .zeropageY → i.mnemonic ∈ [.LDX, .STX, .SAX, .LAX])

/-- R211, R213 to R217, R108, R109: the branch target, the indexed modes and the pointer modes, from the bytes at
PC. Pages are compared by the high byte; the zero page and the jump pointer's page wrap. -/
def Obligations.IndexedAndPointerModesResolveAsStated : Prop :=
  ResolvesTo .relative 2 (fun s =>
    let next := s.pc + 2#16
    let ea := next + BitVec.signExtend 16 (s.read (s.pc + 1#16))
    ⟨some ea, decide (ea.toNat / 256 ≠ next.toNat / 256), none⟩) ∧
  ResolvesTo .absoluteX 3 (fun s =>
    let base := s.read (s.pc + 2#16) ++ s.read (s.pc + 1#16)
    let ea : Addr := BitVec.ofNat 16 (base.toNat + s.x.toNat)
    ⟨some ea, decide (ea.toNat / 256 ≠ base.toNat / 256), some (s.read (s.pc + 2#16))⟩) ∧
  ResolvesTo .absoluteY 3 (fun s =>
    let base := s.read (s.pc + 2#16) ++ s.read (s.pc + 1#16)
    let ea : Addr := BitVec.ofNat 16 (base.toNat + s.y.toNat)
    ⟨some ea, decide (ea.toNat / 256 ≠ base.toNat / 256), some (s.read (s.pc + 2#16))⟩) ∧
  ResolvesTo .indirect 3 (fun s =>
    let p := s.read (s.pc + 2#16) ++ s.read (s.pc + 1#16)
    ⟨some (s.read ((p &&& 0xFF00#16) ||| ((p + 1#16) &&& 0xFF#16)) ++ s.read p), false, none⟩) ∧
  ResolvesTo .indirectX 2 (fun s =>
    let z := s.read (s.pc + 1#16) + s.x
    ⟨some (s.read (BitVec.setWidth 16 (z + 1#8)) ++ s.read (BitVec.setWidth 16 z)), false, none⟩) ∧
  ResolvesTo .indirectY 2 (fun s =>
    let z := s.read (s.pc + 1#16)
    let base := s.read (BitVec.setWidth 16 (z + 1#8)) ++ s.read (BitVec.setWidth 16 z)
    let ea : Addr := BitVec.ofNat 16 (base.toNat + s.y.toNat)
    ⟨some ea, decide (ea.toNat / 256 ≠ base.toNat / 256), some (BitVec.ofNat 8 (base.toNat / 256))⟩) ∧
  (∀ i : Instr, i.operand.mode = .relative →
    i.mnemonic ∈ [.BPL, .BMI, .BVC, .BVS, .BCC, .BCS, .BNE, .BEQ]) ∧
  (∀ i : Instr, i.operand.mode = .indirect → i.opcode = 0x6C#8)

/-- R9, R103 to R105, R101: over any bus, an unmapped address reads as the open bus's value, whatever that is,
with no update, and a write there changes nothing; a mapped address is its device's own read, with its update
of the bus's state, and its own write; where the device is RAM, a read gives the byte last written and no
other byte changes. R102: every address of the default bus is RAM. `exec`, `step` and `reset()` are the core on
that bus; on another bus a load at a device is the device's read, made once, a store its write, made once, and
a read-modify-write its read and then its write. The form of the devices' state is assumption 5. -/
def Obligations.UnmappedAddressesReadOpenBusAndIgnoreWrites : Prop :=
  (∀ (bus : Bus) (b : BusState) (a : Addr) (v : Byte), bus.route a = none →
    busRead bus b a = (Config.openBus b a, b) ∧ busWrite bus b a v = b) ∧
  (∀ (bus : Bus) (b : BusState) (a : Addr) (v : Byte) (device : Device), bus.route a = some device →
    busRead bus b a = device.read a b ∧ busWrite bus b a v = device.write a v b) ∧
  (∀ (bus : Bus) (b : BusState) (p q : Addr) (v : Byte), bus.route p = some ram → bus.route q = some ram →
    (busRead bus b q).2 = b ∧ (busWrite bus b p v).devices = b.devices ∧
    (busRead bus (busWrite bus b p v) q).1 = if q = p then v else (busRead bus b q).1) ∧
  (∀ a : Addr, Config.bus.route a = some ram) ∧
  (∀ s : State, step s = stepOn Config.bus s ∧ Driver.reset s = Driver.resetOn Config.bus s) ∧
  (∀ (i : Instr) (s : State), exec i s = .next (execOn Config.bus i s)) ∧
  (∀ (bus : Bus) (s : State) (a : Addr) (device : Device), bus.route a = some device →
    let m := device.read a s.bus
    let after := fun (n : Nat) (t : State) => { t with
      pc := s.pc + 3#16, iPoll := s.flags.i, cycles := s.cycles + BitVec.ofNat 64 n }
    let nz := fun v : Byte => { s.flags with z := decide (v = 0#8), n := v.msb }
    execOn bus (.ldaAbs a) s = after 4 { s.withBus m.2 with a := m.1, flags := nz m.1 } ∧
    execOn bus (.staAbs a) s = after 4 (s.withBus (device.write a s.a s.bus)) ∧
    execOn bus (.incAbs a) s =
      after 6 { s.withBus (device.write a (m.1 + 1#8) m.2) with flags := nz (m.1 + 1#8) })

/-! ## The arithmetic of the flags -/

/-- R226, R228: the binary add and subtract as arithmetic: the result modulo 256, C as the carry out (no
borrow), V as overflow of the signed result, N and Z of the result. -/
def Obligations.BinaryArithmeticIsArithmetic : Prop :=
  ∀ (a m : Byte) (c : Bool),
    (addBinary a m c).value.toNat = (a.toNat + m.toNat + c.toNat) % 256 ∧
    ((addBinary a m c).c = true ↔ 256 ≤ a.toNat + m.toNat + c.toNat) ∧
    ((addBinary a m c).v = true ↔
      a.toInt + m.toInt + (c.toNat : Int) < -128 ∨ 127 < a.toInt + m.toInt + (c.toNat : Int)) ∧
    (addBinary a m c).n = (addBinary a m c).value.msb ∧
    ((addBinary a m c).z = true ↔ (addBinary a m c).value = 0#8) ∧
    ((subBinary a m c).value.toNat : Int) = ((a.toNat : Int) - m.toNat - (1 - (c.toNat : Int))) % 256 ∧
    ((subBinary a m c).c = true ↔ m.toNat + 1 ≤ a.toNat + c.toNat) ∧
    ((subBinary a m c).v = true ↔
      a.toInt - m.toInt - (1 - (c.toNat : Int)) < -128 ∨ 127 < a.toInt - m.toInt - (1 - (c.toNat : Int))) ∧
    (subBinary a m c).n = (subBinary a m c).value.msb ∧
    ((subBinary a m c).z = true ↔ (subBinary a m c).value = 0#8)

/-- R227, R229, R230, for a machine with a decimal adder and D = 1: on decimal digits the byte is that of the
decimal sum or difference modulo 100, C is its carry (no borrow), and Z, for both, and N and V, for the
difference, are those of the binary operation. With D = 0, or without the adder, both are binary. -/
def Obligations.DecimalArithmeticOnDigits : Prop :=
  (∀ (a1 a0 m1 m0 : Nat) (c : Bool), a1 < 10 → a0 < 10 → m1 < 10 → m0 < 10 →
    let a : Byte := BitVec.ofNat 8 (16 * a1 + a0)
    let m : Byte := BitVec.ofNat 8 (16 * m1 + m0)
    let sum := 10 * a1 + a0 + (10 * m1 + m0) + c.toNat
    let diff : Int := (10 * a1 + a0 : Nat) - (10 * m1 + m0 : Nat) - (1 - (c.toNat : Int))
    (addWith true true a m c).value.toNat = 16 * (sum % 100 / 10) + sum % 10 ∧
    ((addWith true true a m c).c = true ↔ 100 ≤ sum) ∧
    (addWith true true a m c).z = (addBinary a m c).z ∧
    ((subWith true true a m c).value.toNat : Int) = 16 * (diff % 100 / 10) + diff % 10 ∧
    ((subWith true true a m c).c = true ↔ 0 ≤ diff) ∧
    (subWith true true a m c).n = (subBinary a m c).n ∧
    (subWith true true a m c).v = (subBinary a m c).v ∧
    (subWith true true a m c).z = (subBinary a m c).z) ∧
  (∀ (enabled d : Bool) (a m : Byte) (c : Bool), d = false ∨ enabled = false →
    addWith enabled d a m c = addBinary a m c ∧ subWith enabled d a m c = subBinary a m c)

/-! ## Loads, stores, transfers -/

/-- R250, R251, R252, R555: every form of LDA, LDX, LDY and LAX completes, fills its register or registers
with the operand byte, sets N and Z from it, and changes nothing else. -/
def Obligations.LoadsFillTheirRegisters : Prop :=
  formsOf .LDA = [⟨0xA1#8, .indirectX, 2, 6, false⟩, ⟨0xA5#8, .zeropage, 2, 3, false⟩,
    ⟨0xA9#8, .immediate, 2, 2, false⟩, ⟨0xAD#8, .absolute, 3, 4, false⟩, ⟨0xB1#8, .indirectY, 2, 5, true⟩,
    ⟨0xB5#8, .zeropageX, 2, 4, false⟩, ⟨0xB9#8, .absoluteY, 3, 4, true⟩, ⟨0xBD#8, .absoluteX, 3, 4, true⟩] ∧
  formsOf .LDX = [⟨0xA2#8, .immediate, 2, 2, false⟩, ⟨0xA6#8, .zeropage, 2, 3, false⟩,
    ⟨0xAE#8, .absolute, 3, 4, false⟩, ⟨0xB6#8, .zeropageY, 2, 4, false⟩, ⟨0xBE#8, .absoluteY, 3, 4, true⟩] ∧
  formsOf .LDY = [⟨0xA0#8, .immediate, 2, 2, false⟩, ⟨0xA4#8, .zeropage, 2, 3, false⟩,
    ⟨0xAC#8, .absolute, 3, 4, false⟩, ⟨0xB4#8, .zeropageX, 2, 4, false⟩, ⟨0xBC#8, .absoluteX, 3, 4, true⟩] ∧
  formsOf .LAX = [⟨0xA3#8, .indirectX, 2, 6, false⟩, ⟨0xA7#8, .zeropage, 2, 3, false⟩,
    ⟨0xAF#8, .absolute, 3, 4, false⟩, ⟨0xB3#8, .indirectY, 2, 5, true⟩, ⟨0xB7#8, .zeropageY, 2, 4, false⟩,
    ⟨0xBF#8, .absoluteY, 3, 4, true⟩] ∧
  ∀ (i : Instr) (s : State), i.mnemonic = .LDA ∨ i.mnemonic = .LDX ∨ i.mnemonic = .LDY ∨ i.mnemonic = .LAX →
    ∃ m t, OperandByte i s m ∧ exec i s = .next t ∧
      t = { s with
        a := if i.mnemonic = .LDA ∨ i.mnemonic = .LAX then m else s.a
        x := if i.mnemonic = .LDX ∨ i.mnemonic = .LAX then m else s.x
        y := if i.mnemonic = .LDY then m else s.y
        flags := { s.flags with z := decide (m = 0#8), n := m.msb }
        pc := s.pc + BitVec.ofNat 16 i.length, iPoll := s.flags.i, cycles := cyclesAfter i s }

/-- R253, R254, R255, R554: every form of STA, STX, STY and SAX completes, stores A, X, Y or A AND X at its
effective address and changes no other byte, no flag and no register but PC. The list of its data accesses is
the model's (assumption 11). -/
def Obligations.StoresWriteTheirRegister : Prop :=
  formsOf .STA = [⟨0x81#8, .indirectX, 2, 6, false⟩, ⟨0x85#8, .zeropage, 2, 3, false⟩,
    ⟨0x8D#8, .absolute, 3, 4, false⟩, ⟨0x91#8, .indirectY, 2, 6, false⟩, ⟨0x95#8, .zeropageX, 2, 4, false⟩,
    ⟨0x99#8, .absoluteY, 3, 5, false⟩, ⟨0x9D#8, .absoluteX, 3, 5, false⟩] ∧
  formsOf .STX = [⟨0x86#8, .zeropage, 2, 3, false⟩, ⟨0x8E#8, .absolute, 3, 4, false⟩,
    ⟨0x96#8, .zeropageY, 2, 4, false⟩] ∧
  formsOf .STY = [⟨0x84#8, .zeropage, 2, 3, false⟩, ⟨0x8C#8, .absolute, 3, 4, false⟩,
    ⟨0x94#8, .zeropageX, 2, 4, false⟩] ∧
  formsOf .SAX = [⟨0x83#8, .indirectX, 2, 6, false⟩, ⟨0x87#8, .zeropage, 2, 3, false⟩,
    ⟨0x8F#8, .absolute, 3, 4, false⟩, ⟨0x97#8, .zeropageY, 2, 4, false⟩] ∧
  ∀ (i : Instr) (s : State) (v : Byte),
    (i.mnemonic = .STA ∧ v = s.a) ∨ (i.mnemonic = .STX ∧ v = s.x) ∨ (i.mnemonic = .STY ∧ v = s.y) ∨
      (i.mnemonic = .SAX ∧ v = s.a &&& s.x) →
    ∃ ea t, EffectiveAddr i s ea ∧ exec i s = .next t ∧ StoresOnly s t ea v ∧
      dataAccesses i.mnemonic i.operand (afterFetch i s) = [.write ea v] ∧
      t = { s with
        pc := s.pc + BitVec.ofNat 16 i.length, iPoll := s.flags.i, cycles := cyclesAfter i s, mem := t.mem }

/-- R256 to R261: the six transfers complete. TXS writes no flag. -/
def Obligations.TransfersCopyOneRegister : Prop :=
  formsOf .TAX = [⟨0xAA#8, .implied, 1, 2, false⟩] ∧
  formsOf .TAY = [⟨0xA8#8, .implied, 1, 2, false⟩] ∧
  formsOf .TXA = [⟨0x8A#8, .implied, 1, 2, false⟩] ∧
  formsOf .TYA = [⟨0x98#8, .implied, 1, 2, false⟩] ∧
  formsOf .TSX = [⟨0xBA#8, .implied, 1, 2, false⟩] ∧
  formsOf .TXS = [⟨0x9A#8, .implied, 1, 2, false⟩] ∧
  ∀ s : State,
    let nz := fun v : Byte => { s.flags with z := decide (v = 0#8), n := v.msb }
    let next := fun t : State => { t with pc := s.pc + 1#16, iPoll := s.flags.i, cycles := s.cycles + 2#64 }
    exec .tax s = .next (next { s with x := s.a, flags := nz s.a }) ∧
    exec .tay s = .next (next { s with y := s.a, flags := nz s.a }) ∧
    exec .txa s = .next (next { s with a := s.x, flags := nz s.x }) ∧
    exec .tya s = .next (next { s with a := s.y, flags := nz s.y }) ∧
    exec .tsx s = .next (next { s with x := s.sp, flags := nz s.sp }) ∧
    exec .txs s = .next (next { s with sp := s.x })

/-! ## Arithmetic and logic -/

/-- R300, R226, R230: every form of ADC completes. This hardware has no decimal adder, so D changes nothing:
A and C are the sum's, V its signed overflow by R226's formula, N and Z of the new A. With the adder and D = 1
it would be the decimal add. -/
def Obligations.AdcAddsWithCarry : Prop :=
  formsOf .ADC = [⟨0x61#8, .indirectX, 2, 6, false⟩, ⟨0x65#8, .zeropage, 2, 3, false⟩,
    ⟨0x69#8, .immediate, 2, 2, false⟩, ⟨0x6D#8, .absolute, 3, 4, false⟩, ⟨0x71#8, .indirectY, 2, 5, true⟩,
    ⟨0x75#8, .zeropageX, 2, 4, false⟩, ⟨0x79#8, .absoluteY, 3, 4, true⟩, ⟨0x7D#8, .absoluteX, 3, 4, true⟩] ∧
  Config.decimalEnabled = false ∧
  (∀ (a m : Byte) (c : Bool), addWith true true a m c = addDecimal a m c) ∧
  (addDecimal 0x99#8 0x01#8 false).value = 0x00#8 ∧ (addDecimal 0x99#8 0x01#8 false).c = true ∧
  (addDecimal 0x99#8 0x01#8 false).z = false ∧ (addDecimal 0x99#8 0x01#8 false).n = true ∧
  ∀ (i : Instr) (s : State), i.mnemonic = .ADC →
    ∃ m t, OperandByte i s m ∧ exec i s = .next t ∧
      (let sum := s.a.toNat + m.toNat + s.flags.c.toNat
       let r : Byte := BitVec.ofNat 8 sum
       t = { s with
        a := r
        flags := { s.flags with
          c := decide (0xFF < sum), z := decide (r = 0#8), n := r.msb
          v := (~~~(s.a ^^^ m) &&& (s.a ^^^ r)).msb }
        pc := s.pc + BitVec.ofNat 16 i.length, iPoll := s.flags.i, cycles := cyclesAfter i s })

/-- R301, R564, R228, R230: every form of SBC, and USBC, completes: A is `A - M - (1 - C)` modulo 256, C is "no
borrow", V the signed overflow by R228's formula, N and Z of the new A. With a decimal adder and D = 1 it
would be the decimal subtract. -/
def Obligations.SbcSubtractsWithBorrow : Prop :=
  formsOf .SBC = [⟨0xE1#8, .indirectX, 2, 6, false⟩, ⟨0xE5#8, .zeropage, 2, 3, false⟩,
    ⟨0xE9#8, .immediate, 2, 2, false⟩, ⟨0xED#8, .absolute, 3, 4, false⟩, ⟨0xF1#8, .indirectY, 2, 5, true⟩,
    ⟨0xF5#8, .zeropageX, 2, 4, false⟩, ⟨0xF9#8, .absoluteY, 3, 4, true⟩, ⟨0xFD#8, .absoluteX, 3, 4, true⟩] ∧
  formsOf .USBC = [⟨0xEB#8, .immediate, 2, 2, false⟩] ∧
  Config.decimalEnabled = false ∧
  (∀ (a m : Byte) (c : Bool), subWith true true a m c = subDecimal a m c) ∧
  (subDecimal 0x00#8 0x01#8 true).value = 0x99#8 ∧ (subDecimal 0x00#8 0x01#8 true).c = false ∧
  (subDecimal 0x00#8 0x01#8 true).n = true ∧ (subDecimal 0x00#8 0x01#8 true).z = false ∧
  ∀ (i : Instr) (s : State), i.mnemonic = .SBC ∨ i.mnemonic = .USBC →
    ∃ m t, OperandByte i s m ∧ exec i s = .next t ∧
      (let r : Byte := s.a - m - (if s.flags.c then 0#8 else 1#8)
       t = { s with
        a := r
        flags := { s.flags with
          c := decide (m.toNat + (1 - s.flags.c.toNat) ≤ s.a.toNat), z := decide (r = 0#8), n := r.msb
          v := ((s.a ^^^ m) &&& (s.a ^^^ r)).msb }
        pc := s.pc + BitVec.ofNat 16 i.length, iPoll := s.flags.i, cycles := cyclesAfter i s })

/-- R302, R303, R304: every form of AND, ORA and EOR completes. -/
def Obligations.LogicCombinesWithA : Prop :=
  formsOf .AND = [⟨0x21#8, .indirectX, 2, 6, false⟩, ⟨0x25#8, .zeropage, 2, 3, false⟩,
    ⟨0x29#8, .immediate, 2, 2, false⟩, ⟨0x2D#8, .absolute, 3, 4, false⟩, ⟨0x31#8, .indirectY, 2, 5, true⟩,
    ⟨0x35#8, .zeropageX, 2, 4, false⟩, ⟨0x39#8, .absoluteY, 3, 4, true⟩, ⟨0x3D#8, .absoluteX, 3, 4, true⟩] ∧
  formsOf .ORA = [⟨0x01#8, .indirectX, 2, 6, false⟩, ⟨0x05#8, .zeropage, 2, 3, false⟩,
    ⟨0x09#8, .immediate, 2, 2, false⟩, ⟨0x0D#8, .absolute, 3, 4, false⟩, ⟨0x11#8, .indirectY, 2, 5, true⟩,
    ⟨0x15#8, .zeropageX, 2, 4, false⟩, ⟨0x19#8, .absoluteY, 3, 4, true⟩, ⟨0x1D#8, .absoluteX, 3, 4, true⟩] ∧
  formsOf .EOR = [⟨0x41#8, .indirectX, 2, 6, false⟩, ⟨0x45#8, .zeropage, 2, 3, false⟩,
    ⟨0x49#8, .immediate, 2, 2, false⟩, ⟨0x4D#8, .absolute, 3, 4, false⟩, ⟨0x51#8, .indirectY, 2, 5, true⟩,
    ⟨0x55#8, .zeropageX, 2, 4, false⟩, ⟨0x59#8, .absoluteY, 3, 4, true⟩, ⟨0x5D#8, .absoluteX, 3, 4, true⟩] ∧
  ∀ (i : Instr) (s : State) (op : Byte → Byte → Byte),
    (i.mnemonic = .AND ∧ op = (· &&& ·)) ∨ (i.mnemonic = .ORA ∧ op = (· ||| ·)) ∨
      (i.mnemonic = .EOR ∧ op = (· ^^^ ·)) →
    ∃ m t, OperandByte i s m ∧ exec i s = .next t ∧
      t = { s with
        a := op s.a m
        flags := { s.flags with z := decide (op s.a m = 0#8), n := (op s.a m).msb }
        pc := s.pc + BitVec.ofNat 16 i.length, iPoll := s.flags.i, cycles := cyclesAfter i s }

/-- R305: both forms of BIT complete; N and V are bits 7 and 6 of M, Z is of A AND M, A is kept. -/
def Obligations.BitTestsTheOperand : Prop :=
  formsOf .BIT = [⟨0x24#8, .zeropage, 2, 3, false⟩, ⟨0x2C#8, .absolute, 3, 4, false⟩] ∧
  ∀ (i : Instr) (s : State), i.mnemonic = .BIT →
    ∃ m t, OperandByte i s m ∧ exec i s = .next t ∧
      t = { s with
        flags := { s.flags with z := decide (s.a &&& m = 0#8), n := m.getLsbD 7, v := m.getLsbD 6 }
        pc := s.pc + BitVec.ofNat 16 i.length, iPoll := s.flags.i, cycles := cyclesAfter i s }

/-- R306, R307, R308, R231: every form of CMP, CPX and CPY completes and writes N, Z and C only. -/
def Obligations.ComparesWriteFlagsOnly : Prop :=
  formsOf .CMP = [⟨0xC1#8, .indirectX, 2, 6, false⟩, ⟨0xC5#8, .zeropage, 2, 3, false⟩,
    ⟨0xC9#8, .immediate, 2, 2, false⟩, ⟨0xCD#8, .absolute, 3, 4, false⟩, ⟨0xD1#8, .indirectY, 2, 5, true⟩,
    ⟨0xD5#8, .zeropageX, 2, 4, false⟩, ⟨0xD9#8, .absoluteY, 3, 4, true⟩, ⟨0xDD#8, .absoluteX, 3, 4, true⟩] ∧
  formsOf .CPX = [⟨0xE0#8, .immediate, 2, 2, false⟩, ⟨0xE4#8, .zeropage, 2, 3, false⟩,
    ⟨0xEC#8, .absolute, 3, 4, false⟩] ∧
  formsOf .CPY = [⟨0xC0#8, .immediate, 2, 2, false⟩, ⟨0xC4#8, .zeropage, 2, 3, false⟩,
    ⟨0xCC#8, .absolute, 3, 4, false⟩] ∧
  ∀ (i : Instr) (s : State) (r : Byte),
    (i.mnemonic = .CMP ∧ r = s.a) ∨ (i.mnemonic = .CPX ∧ r = s.x) ∨ (i.mnemonic = .CPY ∧ r = s.y) →
    ∃ m t, OperandByte i s m ∧ exec i s = .next t ∧
      t = { s with
        flags := { s.flags with
          c := decide (m.toNat ≤ r.toNat), z := decide (r = m), n := (r - m).msb }
        pc := s.pc + BitVec.ofNat 16 i.length, iPoll := s.flags.i, cycles := cyclesAfter i s }

/-- R309, R310: every form of INC and DEC completes and writes its result once, at its effective address. -/
def Obligations.IncAndDecChangeOneByte : Prop :=
  formsOf .INC = [⟨0xE6#8, .zeropage, 2, 5, false⟩, ⟨0xEE#8, .absolute, 3, 6, false⟩,
    ⟨0xF6#8, .zeropageX, 2, 6, false⟩, ⟨0xFE#8, .absoluteX, 3, 7, false⟩] ∧
  formsOf .DEC = [⟨0xC6#8, .zeropage, 2, 5, false⟩, ⟨0xCE#8, .absolute, 3, 6, false⟩,
    ⟨0xD6#8, .zeropageX, 2, 6, false⟩, ⟨0xDE#8, .absoluteX, 3, 7, false⟩] ∧
  ∀ (i : Instr) (s : State), i.mnemonic = .INC ∨ i.mnemonic = .DEC →
    ∃ ea m t, EffectiveAddr i s ea ∧ OperandByte i s m ∧ exec i s = .next t ∧
      (let r : Byte := if i.mnemonic = .INC then m + 1#8 else m - 1#8
       StoresOnly s t ea r ∧
       t = { s with
        flags := { s.flags with z := decide (r = 0#8), n := r.msb }
        pc := s.pc + BitVec.ofNat 16 i.length, iPoll := s.flags.i, cycles := cyclesAfter i s, mem := t.mem })

/-- R311 to R314: INX, INY, DEX and DEY complete. -/
def Obligations.IndexRegistersCountByOne : Prop :=
  formsOf .INX = [⟨0xE8#8, .implied, 1, 2, false⟩] ∧
  formsOf .INY = [⟨0xC8#8, .implied, 1, 2, false⟩] ∧
  formsOf .DEX = [⟨0xCA#8, .implied, 1, 2, false⟩] ∧
  formsOf .DEY = [⟨0x88#8, .implied, 1, 2, false⟩] ∧
  ∀ s : State,
    let nz := fun v : Byte => { s.flags with z := decide (v = 0#8), n := v.msb }
    let next := fun t : State => { t with pc := s.pc + 1#16, iPoll := s.flags.i, cycles := s.cycles + 2#64 }
    exec .inx s = .next (next { s with x := s.x + 1#8, flags := nz (s.x + 1#8) }) ∧
    exec .iny s = .next (next { s with y := s.y + 1#8, flags := nz (s.y + 1#8) }) ∧
    exec .dex s = .next (next { s with x := s.x - 1#8, flags := nz (s.x - 1#8) }) ∧
    exec .dey s = .next (next { s with y := s.y - 1#8, flags := nz (s.y - 1#8) })

/-! ## Shifts and rotates -/

/-- R350 to R353, R232: every form of ASL, LSR, ROL and ROR completes. The accumulator forms work on A; the
memory forms write their result once, at their effective address. -/
def Obligations.ShiftsMoveABit : Prop :=
  formsOf .ASL = [⟨0x06#8, .zeropage, 2, 5, false⟩, ⟨0x0A#8, .accumulator, 1, 2, false⟩,
    ⟨0x0E#8, .absolute, 3, 6, false⟩, ⟨0x16#8, .zeropageX, 2, 6, false⟩,
    ⟨0x1E#8, .absoluteX, 3, 7, false⟩] ∧
  formsOf .LSR = [⟨0x46#8, .zeropage, 2, 5, false⟩, ⟨0x4A#8, .accumulator, 1, 2, false⟩,
    ⟨0x4E#8, .absolute, 3, 6, false⟩, ⟨0x56#8, .zeropageX, 2, 6, false⟩,
    ⟨0x5E#8, .absoluteX, 3, 7, false⟩] ∧
  formsOf .ROL = [⟨0x26#8, .zeropage, 2, 5, false⟩, ⟨0x2A#8, .accumulator, 1, 2, false⟩,
    ⟨0x2E#8, .absolute, 3, 6, false⟩, ⟨0x36#8, .zeropageX, 2, 6, false⟩,
    ⟨0x3E#8, .absoluteX, 3, 7, false⟩] ∧
  formsOf .ROR = [⟨0x66#8, .zeropage, 2, 5, false⟩, ⟨0x6A#8, .accumulator, 1, 2, false⟩,
    ⟨0x6E#8, .absolute, 3, 6, false⟩, ⟨0x76#8, .zeropageX, 2, 6, false⟩,
    ⟨0x7E#8, .absoluteX, 3, 7, false⟩] ∧
  (∀ s : State,
    let after := fun (r : Byte) (carry : Bool) => { s with
      a := r, flags := { s.flags with c := carry, z := decide (r = 0#8), n := r.msb }
      pc := s.pc + 1#16, iPoll := s.flags.i, cycles := s.cycles + 2#64 }
    exec .aslAcc s = .next (after (BitVec.ofNat 8 (2 * s.a.toNat)) (s.a.getLsbD 7)) ∧
    exec .lsrAcc s = .next (after (BitVec.ofNat 8 (s.a.toNat / 2)) (s.a.getLsbD 0)) ∧
    exec .rolAcc s =
      .next (after (BitVec.ofNat 8 (2 * s.a.toNat + s.flags.c.toNat)) (s.a.getLsbD 7)) ∧
    exec .rorAcc s =
      .next (after (BitVec.ofNat 8 (s.a.toNat / 2 + 128 * s.flags.c.toNat)) (s.a.getLsbD 0))) ∧
  (∀ (i : Instr) (s : State), i.operand ≠ .accumulator →
    i.mnemonic = .ASL ∨ i.mnemonic = .LSR ∨ i.mnemonic = .ROL ∨ i.mnemonic = .ROR →
    ∃ ea m t, EffectiveAddr i s ea ∧ OperandByte i s m ∧ exec i s = .next t ∧
      (let left := i.mnemonic = .ASL ∨ i.mnemonic = .ROL
       let carryIn := if i.mnemonic = .ROL ∨ i.mnemonic = .ROR then s.flags.c.toNat else 0
       let r : Byte := BitVec.ofNat 8 (if left then 2 * m.toNat + carryIn else m.toNat / 2 + 128 * carryIn)
       StoresOnly s t ea r ∧
       t = { s with
        flags := { s.flags with
          c := if left then m.getLsbD 7 else m.getLsbD 0, z := decide (r = 0#8), n := r.msb }
        pc := s.pc + BitVec.ofNat 16 i.length, iPoll := s.flags.i, cycles := cyclesAfter i s, mem := t.mem }))

/-! ## Control flow -/

/-- R401 to R408, R400: each branch completes; taken, PC is the target relative to the byte after it, else that
byte; nothing else but I_poll and the cycle counter changes. -/
def Obligations.BranchesGoToTheirTarget : Prop :=
  formsOf .BPL = [⟨0x10#8, .relative, 2, 2, false⟩] ∧
  formsOf .BMI = [⟨0x30#8, .relative, 2, 2, false⟩] ∧
  formsOf .BVC = [⟨0x50#8, .relative, 2, 2, false⟩] ∧
  formsOf .BVS = [⟨0x70#8, .relative, 2, 2, false⟩] ∧
  formsOf .BCC = [⟨0x90#8, .relative, 2, 2, false⟩] ∧
  formsOf .BCS = [⟨0xB0#8, .relative, 2, 2, false⟩] ∧
  formsOf .BNE = [⟨0xD0#8, .relative, 2, 2, false⟩] ∧
  formsOf .BEQ = [⟨0xF0#8, .relative, 2, 2, false⟩] ∧
  ∀ (s : State) (disp : Int),
    let next := s.pc + 2#16
    let target := next + BitVec.ofInt 16 disp
    let extra : BitVec 64 := if target.toNat / 256 = next.toNat / 256 then 1#64 else 2#64
    let goes := fun taken : Bool => { s with
      pc := if taken then target else next
      iPoll := s.flags.i
      cycles := s.cycles + 2#64 + (if taken then extra else 0#64) }
    exec (.bpl disp) s = .next (goes (!s.flags.n)) ∧ exec (.bmi disp) s = .next (goes s.flags.n) ∧
    exec (.bvc disp) s = .next (goes (!s.flags.v)) ∧ exec (.bvs disp) s = .next (goes s.flags.v) ∧
    exec (.bcc disp) s = .next (goes (!s.flags.c)) ∧ exec (.bcs disp) s = .next (goes s.flags.c) ∧
    exec (.bne disp) s = .next (goes (!s.flags.z)) ∧ exec (.beq disp) s = .next (goes s.flags.z)

/-- R409, R410, R109: both jumps complete; the indirect one takes its high byte from the pointer's own page. There
is no data read at the target, by the list of accesses (assumption 11). -/
def Obligations.JumpsGoToTheirTarget : Prop :=
  formsOf .JMP = [⟨0x4C#8, .absolute, 3, 3, false⟩, ⟨0x6C#8, .indirect, 3, 5, false⟩] ∧
  ∀ (s : State) (target : Addr),
    exec (.jmpAbs target) s =
      .next { s with pc := target, iPoll := s.flags.i, cycles := s.cycles + 3#64 } ∧
    executionAccesses (.jmpAbs target) s = [] ∧
    exec (.jmpInd target) s = .next { s with
      pc := s.read ((target &&& 0xFF00#16) ||| ((target + 1#16) &&& 0xFF#16)) ++ s.read target
      iPoll := s.flags.i, cycles := s.cycles + 5#64 }

/-- R411: JSR completes: the address of its last byte is pushed, high byte first, and PC is the target. -/
def Obligations.JsrPushesAndJumps : Prop :=
  formsOf .JSR = [⟨0x20#8, .absolute, 3, 6, false⟩] ∧
  ∀ (s : State) (target : Addr), ∃ t, exec (.jsr target) s = .next t ∧
    t.read (stackAddr s.sp) = highByte (s.pc + 2#16) ∧
    t.read (stackAddr (s.sp - 1#8)) = lowByte (s.pc + 2#16) ∧
    KeepsOutside2 s t (stackAddr s.sp) (stackAddr (s.sp - 1#8)) ∧
    t = { s with sp := s.sp - 2#8, pc := target, iPoll := s.flags.i, cycles := s.cycles + 6#64, mem := t.mem }

/-- R412: RTS completes: it pulls an address, low byte first, and goes to the one after it. -/
def Obligations.RtsPullsAndReturns : Prop :=
  formsOf .RTS = [⟨0x60#8, .implied, 1, 6, false⟩] ∧
  ∀ s : State, exec .rts s = .next { s with
    sp := s.sp + 2#8
    pc := (s.read (stackAddr (s.sp + 2#8)) ++ s.read (stackAddr (s.sp + 1#8))) + 1#16
    iPoll := s.flags.i, cycles := s.cycles + 6#64 }

/-- R411, R412: a subroutine that leaves SP and the two pushed bytes as JSR left them returns, by RTS, to the
byte after the JSR, with SP as before the call. -/
def Obligations.CallThenReturnComesBack : Prop :=
  ∀ (s t h : State) (target : Addr), exec (.jsr target) s = .next t → h.sp = t.sp →
    (∀ k : Byte, k = 1#8 ∨ k = 2#8 → h.read (stackAddr (t.sp + k)) = t.read (stackAddr (t.sp + k))) →
    ∃ u, exec .rts h = .next u ∧ u.pc = s.pc + 3#16 ∧ u.sp = s.sp ∧ StoresNothing h u

/-! ## Stack, flags and system -/

/-- R450, R451, R112, R114: PHA and PHP complete; bits 4 and 5 of PHP's byte are 1. SP wraps in its page. -/
def Obligations.PushesStoreOneByte : Prop :=
  formsOf .PHA = [⟨0x48#8, .implied, 1, 3, false⟩] ∧
  formsOf .PHP = [⟨0x08#8, .implied, 1, 3, false⟩] ∧
  ∀ s : State,
    (∃ t, exec .pha s = .next t ∧ StoresOnly s t (0x0100#16 ||| BitVec.setWidth 16 s.sp) s.a ∧
      t = { s with
        sp := s.sp - 1#8, pc := s.pc + 1#16, iPoll := s.flags.i, cycles := s.cycles + 3#64, mem := t.mem }) ∧
    (∃ t p, exec .php s = .next t ∧ StoresOnly s t (0x0100#16 ||| BitVec.setWidth 16 s.sp) p ∧
      p.getLsbD 7 = s.flags.n ∧ p.getLsbD 6 = s.flags.v ∧ p.getLsbD 5 = true ∧ p.getLsbD 4 = true ∧
      p.getLsbD 3 = s.flags.d ∧ p.getLsbD 2 = s.flags.i ∧ p.getLsbD 1 = s.flags.z ∧ p.getLsbD 0 = s.flags.c ∧
      t = { s with
        sp := s.sp - 1#8, pc := s.pc + 1#16, iPoll := s.flags.i, cycles := s.cycles + 3#64, mem := t.mem })

/-- R452, R453, R113: PLA and PLP complete; PLP ignores bits 4 and 5, and its I reaches I_poll a step late. -/
def Obligations.PullsLoadOneByte : Prop :=
  formsOf .PLA = [⟨0x68#8, .implied, 1, 4, false⟩] ∧
  formsOf .PLP = [⟨0x28#8, .implied, 1, 4, false⟩] ∧
  ∀ s : State,
    let v := s.read (0x0100#16 ||| BitVec.setWidth 16 (s.sp + 1#8))
    exec .pla s = .next { s with
      a := v, sp := s.sp + 1#8, flags := { s.flags with z := decide (v = 0#8), n := v.msb }
      pc := s.pc + 1#16, iPoll := s.flags.i, cycles := s.cycles + 4#64 } ∧
    exec .plp s = .next { s with
      sp := s.sp + 1#8
      flags := { n := v.getLsbD 7, v := v.getLsbD 6, b := false, d := v.getLsbD 3, i := v.getLsbD 2,
                 z := v.getLsbD 1, c := v.getLsbD 0 }
      pc := s.pc + 1#16, iPoll := s.flags.i, cycles := s.cycles + 4#64 }

/-- R454 to R460: the seven flag instructions complete and write their flag only; CLI and SEI leave I_poll at
the I from before them. -/
def Obligations.FlagInstructionsWriteOneFlag : Prop :=
  formsOf .CLC = [⟨0x18#8, .implied, 1, 2, false⟩] ∧
  formsOf .SEC = [⟨0x38#8, .implied, 1, 2, false⟩] ∧
  formsOf .CLI = [⟨0x58#8, .implied, 1, 2, false⟩] ∧
  formsOf .SEI = [⟨0x78#8, .implied, 1, 2, false⟩] ∧
  formsOf .CLD = [⟨0xD8#8, .implied, 1, 2, false⟩] ∧
  formsOf .SED = [⟨0xF8#8, .implied, 1, 2, false⟩] ∧
  formsOf .CLV = [⟨0xB8#8, .implied, 1, 2, false⟩] ∧
  ∀ s : State,
    let after := fun f : Flags => { s with
      flags := f, pc := s.pc + 1#16, iPoll := s.flags.i, cycles := s.cycles + 2#64 }
    exec .clc s = .next (after { s.flags with c := false }) ∧
    exec .sec s = .next (after { s.flags with c := true }) ∧
    exec .cli s = .next (after { s.flags with i := false }) ∧
    exec .sei s = .next (after { s.flags with i := true }) ∧
    exec .cld s = .next (after { s.flags with d := false }) ∧
    exec .sed s = .next (after { s.flags with d := true }) ∧
    exec .clv s = .next (after { s.flags with v := false })

/-- R461, R571, R572: every NOP, documented or not, completes and does nothing but move PC past itself. The list of its accesses is the model's
(assumption 11). -/
def Obligations.NopsDoNothing : Prop :=
  formsOf .NOP = [⟨0x04#8, .zeropage, 2, 3, false⟩, ⟨0x0C#8, .absolute, 3, 4, false⟩,
    ⟨0x14#8, .zeropageX, 2, 4, false⟩, ⟨0x1A#8, .implied, 1, 2, false⟩, ⟨0x1C#8, .absoluteX, 3, 4, true⟩,
    ⟨0x34#8, .zeropageX, 2, 4, false⟩, ⟨0x3A#8, .implied, 1, 2, false⟩, ⟨0x3C#8, .absoluteX, 3, 4, true⟩,
    ⟨0x44#8, .zeropage, 2, 3, false⟩, ⟨0x54#8, .zeropageX, 2, 4, false⟩, ⟨0x5A#8, .implied, 1, 2, false⟩,
    ⟨0x5C#8, .absoluteX, 3, 4, true⟩, ⟨0x64#8, .zeropage, 2, 3, false⟩, ⟨0x74#8, .zeropageX, 2, 4, false⟩,
    ⟨0x7A#8, .implied, 1, 2, false⟩, ⟨0x7C#8, .absoluteX, 3, 4, true⟩, ⟨0x80#8, .immediate, 2, 2, false⟩,
    ⟨0x82#8, .immediate, 2, 2, false⟩, ⟨0x89#8, .immediate, 2, 2, false⟩, ⟨0xC2#8, .immediate, 2, 2, false⟩,
    ⟨0xD4#8, .zeropageX, 2, 4, false⟩, ⟨0xDA#8, .implied, 1, 2, false⟩, ⟨0xDC#8, .absoluteX, 3, 4, true⟩,
    ⟨0xE2#8, .immediate, 2, 2, false⟩, ⟨0xEA#8, .implied, 1, 2, false⟩, ⟨0xF4#8, .zeropageX, 2, 4, false⟩,
    ⟨0xFA#8, .implied, 1, 2, false⟩, ⟨0xFC#8, .absoluteX, 3, 4, true⟩] ∧
  ∀ (i : Instr) (s : State), i.mnemonic = .NOP →
    exec i s = .next { s with
      pc := s.pc + BitVec.ofNat 16 i.length, iPoll := s.flags.i, cycles := cyclesAfter i s } ∧
    (∀ ea, EffectiveAddr i s ea → executionAccesses i s = [.read ea]) ∧
    (i.operand = .implied ∨ (∃ v, i.operand = .immediate v) → executionAccesses i s = [])

/-- R462, R605: BRK completes: the entry sequence with bit 4 pushed as 1 and the address past the signature
byte as the return address, whatever I is. That it does not read that byte is said of the list of accesses
(assumption 11). -/
def Obligations.BrkEntersTheHandler : Prop :=
  formsOf .BRK = [⟨0x00#8, .implied, 1, 7, false⟩] ∧
  ∀ s : State, ∃ t, exec .brk s = .next t ∧ Entered true 0xFFFE#16 (s.pc + 2#16) s t ∧
    t.nmiPending = s.nmiPending ∧ t.irqPending = s.irqPending ∧ t.cycles = s.cycles + 7#64 ∧
    readAddrs (instrAccesses .brk s) = [s.pc, 0xFFFE#16, 0xFFFF#16]

/-- R463, R608: RTI completes: it pulls the flags, ignoring bits 4 and 5, then PC, low byte first, with no
+1; the restored I reaches I_poll at once. -/
def Obligations.RtiRestoresFlagsAndPC : Prop :=
  formsOf .RTI = [⟨0x40#8, .implied, 1, 6, false⟩] ∧
  ∀ s : State,
    let v := s.read (stackAddr (s.sp + 1#8))
    exec .rti s = .next { s with
      sp := s.sp + 3#8
      flags := { n := v.getLsbD 7, v := v.getLsbD 6, b := false, d := v.getLsbD 3, i := v.getLsbD 2,
                 z := v.getLsbD 1, c := v.getLsbD 0 }
      pc := s.read (stackAddr (s.sp + 3#8)) ++ s.read (stackAddr (s.sp + 2#8))
      iPoll := v.getLsbD 2, cycles := s.cycles + 6#64 }

/-- R608, R605, R462: after the entry of an NMI, an IRQ or a BRK, an RTI made with SP and the three pushed
bytes as the entry left them, whatever the handler did to the rest, restores PC (past the signature byte
for BRK), SP and every flag exactly; the stored B is 0. -/
def Obligations.EntryThenReturnRestores : Prop :=
  ∀ (s e h : State) (ret : Addr), s.flags.b = false →
    (step s = .next e ∧ (stepKind s = .nmi ∨ stepKind s = .irq) ∧ ret = s.pc) ∨
      (exec .brk s = .next e ∧ ret = s.pc + 2#16) →
    h.sp = e.sp →
    (∀ k : Byte, k = 1#8 ∨ k = 2#8 ∨ k = 3#8 → h.read (stackAddr (e.sp + k)) = e.read (stackAddr (e.sp + k))) →
    ∃ u, exec .rti h = .next u ∧ u.pc = ret ∧ u.sp = s.sp ∧ u.flags = s.flags ∧ u.iPoll = s.flags.i ∧
      Driver.statusByte u = Driver.statusByte s ∧ u.a = h.a ∧ u.x = h.x ∧ u.y = h.y ∧ StoresNothing h u

/-! ## Undocumented opcodes -/

/-- R550, R551, R552: every form of SLO, RLA and SRE completes: the shifted byte is written once, and A takes
OR, AND or EOR with it; C is the bit shifted out, N and Z are of A. -/
def Obligations.ShiftAndCombineOpcodes : Prop :=
  formsOf .SLO = [⟨0x03#8, .indirectX, 2, 8, false⟩, ⟨0x07#8, .zeropage, 2, 5, false⟩,
    ⟨0x0F#8, .absolute, 3, 6, false⟩, ⟨0x13#8, .indirectY, 2, 8, false⟩, ⟨0x17#8, .zeropageX, 2, 6, false⟩,
    ⟨0x1B#8, .absoluteY, 3, 7, false⟩, ⟨0x1F#8, .absoluteX, 3, 7, false⟩] ∧
  formsOf .RLA = [⟨0x23#8, .indirectX, 2, 8, false⟩, ⟨0x27#8, .zeropage, 2, 5, false⟩,
    ⟨0x2F#8, .absolute, 3, 6, false⟩, ⟨0x33#8, .indirectY, 2, 8, false⟩, ⟨0x37#8, .zeropageX, 2, 6, false⟩,
    ⟨0x3B#8, .absoluteY, 3, 7, false⟩, ⟨0x3F#8, .absoluteX, 3, 7, false⟩] ∧
  formsOf .SRE = [⟨0x43#8, .indirectX, 2, 8, false⟩, ⟨0x47#8, .zeropage, 2, 5, false⟩,
    ⟨0x4F#8, .absolute, 3, 6, false⟩, ⟨0x53#8, .indirectY, 2, 8, false⟩, ⟨0x57#8, .zeropageX, 2, 6, false⟩,
    ⟨0x5B#8, .absoluteY, 3, 7, false⟩, ⟨0x5F#8, .absoluteX, 3, 7, false⟩] ∧
  ∀ (i : Instr) (s : State), i.mnemonic = .SLO ∨ i.mnemonic = .RLA ∨ i.mnemonic = .SRE →
    ∃ ea m t, EffectiveAddr i s ea ∧ OperandByte i s m ∧ exec i s = .next t ∧
      (let r : Byte :=
        if i.mnemonic = .SLO then m <<< 1
        else if i.mnemonic = .RLA then BitVec.ofNat 8 (2 * m.toNat + s.flags.c.toNat)
        else m >>> 1
       let a : Byte :=
        if i.mnemonic = .SLO then s.a ||| r else if i.mnemonic = .RLA then s.a &&& r else s.a ^^^ r
       StoresOnly s t ea r ∧
       t = { s with
        a := a
        flags := { s.flags with
          c := if i.mnemonic = .SRE then m.getLsbD 0 else m.getLsbD 7, z := decide (a = 0#8), n := a.msb }
        pc := s.pc + BitVec.ofNat 16 i.length, iPoll := s.flags.i, cycles := cyclesAfter i s, mem := t.mem })

/-- R553, R557: every form of RRA and ISC completes: the rotated or incremented byte is written once and then
added to A, with the rotate's carry out, or subtracted from A, with C; the flags are those of the add or the
subtract. This hardware has no decimal adder (R230), so both are binary. -/
def Obligations.RotateAddAndIncrementSubtractOpcodes : Prop :=
  formsOf .RRA = [⟨0x63#8, .indirectX, 2, 8, false⟩, ⟨0x67#8, .zeropage, 2, 5, false⟩,
    ⟨0x6F#8, .absolute, 3, 6, false⟩, ⟨0x73#8, .indirectY, 2, 8, false⟩, ⟨0x77#8, .zeropageX, 2, 6, false⟩,
    ⟨0x7B#8, .absoluteY, 3, 7, false⟩, ⟨0x7F#8, .absoluteX, 3, 7, false⟩] ∧
  formsOf .ISC = [⟨0xE3#8, .indirectX, 2, 8, false⟩, ⟨0xE7#8, .zeropage, 2, 5, false⟩,
    ⟨0xEF#8, .absolute, 3, 6, false⟩, ⟨0xF3#8, .indirectY, 2, 8, false⟩, ⟨0xF7#8, .zeropageX, 2, 6, false⟩,
    ⟨0xFB#8, .absoluteY, 3, 7, false⟩, ⟨0xFF#8, .absoluteX, 3, 7, false⟩] ∧
  ∀ (i : Instr) (s : State), i.mnemonic = .RRA ∨ i.mnemonic = .ISC →
    ∃ ea m t, EffectiveAddr i s ea ∧ OperandByte i s m ∧ exec i s = .next t ∧
      (let r : Byte :=
        if i.mnemonic = .RRA then BitVec.ofNat 8 (m.toNat / 2 + 128 * s.flags.c.toNat) else m + 1#8
       let res := if i.mnemonic = .RRA then addBinary s.a r (m.getLsbD 0) else subBinary s.a r s.flags.c
       StoresOnly s t ea r ∧
       t = { s with
        a := res.value
        flags := { s.flags with c := res.c, z := res.z, n := res.n, v := res.v }
        pc := s.pc + BitVec.ofNat 16 i.length, iPoll := s.flags.i, cycles := cyclesAfter i s, mem := t.mem })

/-- R556: every form of DCP completes: the decremented byte is written once and A compared with it. -/
def Obligations.DecrementCompareOpcode : Prop :=
  formsOf .DCP = [⟨0xC3#8, .indirectX, 2, 8, false⟩, ⟨0xC7#8, .zeropage, 2, 5, false⟩,
    ⟨0xCF#8, .absolute, 3, 6, false⟩, ⟨0xD3#8, .indirectY, 2, 8, false⟩, ⟨0xD7#8, .zeropageX, 2, 6, false⟩,
    ⟨0xDB#8, .absoluteY, 3, 7, false⟩, ⟨0xDF#8, .absoluteX, 3, 7, false⟩] ∧
  ∀ (i : Instr) (s : State), i.mnemonic = .DCP →
    ∃ ea m t, EffectiveAddr i s ea ∧ OperandByte i s m ∧ exec i s = .next t ∧
      StoresOnly s t ea (m - 1#8) ∧
      t = { s with
        flags := { s.flags with
          c := decide ((m - 1#8).toNat ≤ s.a.toNat), z := decide (s.a = m - 1#8), n := (s.a - (m - 1#8)).msb }
        pc := s.pc + BitVec.ofNat 16 i.length, iPoll := s.flags.i, cycles := cyclesAfter i s, mem := t.mem }

/-- R558, R559, R565, R563: both ANC opcodes, ALR, LAS and SBX complete. SBX works like a compare of A AND X,
and keeps A and V. -/
def Obligations.AndThenCopyShiftOrSubtractOpcodes : Prop :=
  formsOf .ANC = [⟨0x0B#8, .immediate, 2, 2, false⟩, ⟨0x2B#8, .immediate, 2, 2, false⟩] ∧
  formsOf .ALR = [⟨0x4B#8, .immediate, 2, 2, false⟩] ∧
  formsOf .LAS = [⟨0xBB#8, .absoluteY, 3, 4, true⟩] ∧
  formsOf .SBX = [⟨0xCB#8, .immediate, 2, 2, false⟩] ∧
  (∀ (i : Instr) (s : State), i.mnemonic = .ANC →
    ∃ m, OperandByte i s m ∧ exec i s = .next { s with
      a := s.a &&& m
      flags := { s.flags with
        z := decide (s.a &&& m = 0#8), n := (s.a &&& m).msb, c := (s.a &&& m).msb }
      pc := s.pc + 2#16, iPoll := s.flags.i, cycles := s.cycles + 2#64 }) ∧
  (∀ (v : Byte) (s : State), exec (.alrImm v) s = .next { s with
    a := (s.a &&& v) >>> 1
    flags := { s.flags with
      z := decide ((s.a &&& v) >>> 1 = 0#8), n := false, c := (s.a &&& v).getLsbD 0 }
    pc := s.pc + 2#16, iPoll := s.flags.i, cycles := s.cycles + 2#64 }) ∧
  (∀ (addr : Addr) (s : State), ∃ m, OperandByte (.lasAbsY addr) s m ∧ exec (.lasAbsY addr) s = .next { s with
    a := m &&& s.sp, x := m &&& s.sp, sp := m &&& s.sp
    flags := { s.flags with z := decide (m &&& s.sp = 0#8), n := (m &&& s.sp).msb }
    pc := s.pc + 3#16, iPoll := s.flags.i, cycles := cyclesAfter (.lasAbsY addr) s }) ∧
  (∀ (v : Byte) (s : State), exec (.sbxImm v) s = .next { s with
    x := (s.a &&& s.x) - v
    flags := { s.flags with
      c := decide (v.toNat ≤ (s.a &&& s.x).toNat), z := decide (s.a &&& s.x = v)
      n := ((s.a &&& s.x) - v).msb }
    pc := s.pc + 2#16, iPoll := s.flags.i, cycles := s.cycles + 2#64 })

/-- R560: ARR completes; this hardware has no decimal adder, so it is the binary form whatever D is: A is the
rotated `A & M`, C its bit 6, V bit 6 xor bit 5. The decimal form, for a machine with the adder: N is the old
carry and Z of the rotated byte, V bit 6 of `t xor A`, and C and A by the two digit rules; with D = 0 the
adder changes nothing. -/
def Obligations.ArrRotatesWithItsOwnFlags : Prop :=
  formsOf .ARR = [⟨0x6B#8, .immediate, 2, 2, false⟩] ∧
  (∀ (v : Byte) (s : State), ∃ t, exec (.arrImm v) s = .next t ∧
    (let r : Byte := BitVec.ofNat 8 ((s.a &&& v).toNat / 2 + 128 * s.flags.c.toNat)
     t = { s with
      a := r
      flags := { s.flags with
        z := decide (r = 0#8), n := r.msb, c := r.getLsbD 6, v := r.getLsbD 6 != r.getLsbD 5 }
      pc := s.pc + 2#16, iPoll := s.flags.i, cycles := s.cycles + 2#64 })) ∧
  (∀ (a m : Byte) (f : Flags), f.d = true →
    let t := a &&& m
    let r : Byte := BitVec.ofNat 8 (t.toNat / 2 + 128 * f.c.toNat)
    let lo := t.toNat % 16
    let hi := t.toNat / 16
    let fixed : Byte := if 5 < lo + lo % 2 then BitVec.ofNat 8 (r.toNat / 16 * 16 + (r.toNat + 6) % 16) else r
    (arrWith true a m f).1 = (if 5 < hi + hi % 2 then fixed + 0x60#8 else fixed) ∧
    (arrWith true a m f).2 = { f with
      n := f.c, z := decide (r = 0#8), v := t.getLsbD 6 != r.getLsbD 6, c := decide (5 < hi + hi % 2) }) ∧
  (∀ (a m : Byte) (f : Flags), f.d = false → arrWith true a m f = arrWith false a m f)

/-- R561, R562: ANE and LXA complete, for every value of the chip's constants; with A = 0xFF the result does
not depend on them. That each is one constant of the machine, the same at every execution, is assumption 4. -/
def Obligations.UnstableImmediatesUseTheChipsConstant : Prop :=
  formsOf .ANE = [⟨0x8B#8, .immediate, 2, 2, false⟩] ∧
  formsOf .LXA = [⟨0xAB#8, .immediate, 2, 2, false⟩] ∧
  (∀ (v : Byte) (s : State), ∃ t, exec (.aneImm v) s = .next t ∧
    (let r := (s.a ||| Config.aneMagic) &&& s.x &&& v
     t = { s with
      a := r, flags := { s.flags with z := decide (r = 0#8), n := r.msb }
      pc := s.pc + 2#16, iPoll := s.flags.i, cycles := s.cycles + 2#64 } ∧
     (s.a = 0xFF#8 → t.a = s.x &&& v))) ∧
  (∀ (v : Byte) (s : State), ∃ t, exec (.lxaImm v) s = .next t ∧
    (let r := (s.a ||| Config.lxaMagic) &&& v
     t = { s with
      a := r, x := r, flags := { s.flags with z := decide (r = 0#8), n := r.msb }
      pc := s.pc + 2#16, iPoll := s.flags.i, cycles := s.cycles + 2#64 } ∧
     (s.a = 0xFF#8 → t.a = v ∧ t.x = v)))

/-- R566 to R570: every form of SHA, SHX, SHY and TAS completes: the byte is the source AND the base's high byte
plus one, stored at the effective address, or on a page crossing at the address with the byte as its high
byte; TAS also sets SP to A AND X. The list of the data accesses is the model's (assumption 11). -/
def Obligations.UnstableStoresFollowTheCommonRule : Prop :=
  formsOf .SHA = [⟨0x93#8, .indirectY, 2, 6, false⟩, ⟨0x9F#8, .absoluteY, 3, 5, false⟩] ∧
  formsOf .SHX = [⟨0x9E#8, .absoluteY, 3, 5, false⟩] ∧
  formsOf .SHY = [⟨0x9C#8, .absoluteX, 3, 5, false⟩] ∧
  formsOf .TAS = [⟨0x9B#8, .absoluteY, 3, 5, false⟩] ∧
  ∀ (i : Instr) (s : State) (src : Byte),
    (i.mnemonic = .SHA ∧ src = s.a &&& s.x) ∨ (i.mnemonic = .SHX ∧ src = s.x) ∨
      (i.mnemonic = .SHY ∧ src = s.y) ∨ (i.mnemonic = .TAS ∧ src = s.a &&& s.x) →
    ∃ ea high t, resolve i.operand (afterFetch i s) =
        ⟨some ea, (resolve i.operand (afterFetch i s)).crossed, some high⟩ ∧
      exec i s = .next t ∧
      (let v := src &&& (high + 1#8)
       let addr : Addr := if (resolve i.operand (afterFetch i s)).crossed then v ++ lowByte ea else ea
       StoresOnly s t addr v ∧
       dataAccesses i.mnemonic i.operand (afterFetch i s) = [.write addr v] ∧
       t = { s with
        sp := if i.mnemonic = .TAS then s.a &&& s.x else s.sp
        pc := s.pc + BitVec.ofNat 16 i.length, iPoll := s.flags.i, cycles := cyclesAfter i s, mem := t.mem })

/-- R573: each of the twelve JAM opcodes completes: the run state is Jammed, PC is at the byte after the
opcode, and the step counts 2 cycles; a later step returns 0, makes no access and changes nothing. For that
last clause the premise `resetDone` is assumption 3, the returned 0 assumption 7, the list of accesses
assumption 11. -/
def Obligations.JamHaltsTheCore : Prop :=
  formsOf .JAM = [⟨0x02#8, .implied, 1, 2, false⟩, ⟨0x12#8, .implied, 1, 2, false⟩,
    ⟨0x22#8, .implied, 1, 2, false⟩, ⟨0x32#8, .implied, 1, 2, false⟩, ⟨0x42#8, .implied, 1, 2, false⟩,
    ⟨0x52#8, .implied, 1, 2, false⟩, ⟨0x62#8, .implied, 1, 2, false⟩, ⟨0x72#8, .implied, 1, 2, false⟩,
    ⟨0x92#8, .implied, 1, 2, false⟩, ⟨0xB2#8, .implied, 1, 2, false⟩, ⟨0xD2#8, .implied, 1, 2, false⟩,
    ⟨0xF2#8, .implied, 1, 2, false⟩] ∧
  ∀ (i : Instr) (s : State), i.mnemonic = .JAM →
    ∃ t, exec i s = .next t ∧
      t = { s with
        run := .jammed, pc := s.pc + 1#16, iPoll := s.flags.i, cycles := s.cycles + 2#64 } ∧
      (s.resetDone = true → step t = .next t ∧ Driver.cyclesConsumed t = some 0 ∧ stepAccesses t = [] ∧
        (∀ kind, step (Driver.requestInterrupt kind t) = .next (Driver.requestInterrupt kind t)) ∧
        (Driver.reset t).run = .running)
end

