-- ==== Sys2Proof/Laws/Memory.lean ====
section
/-! SUPPORT. The laws of the backing store: a read after a write, the canonical form, and that canonical
memories which read alike are equal. -/

namespace Sys2Proof.Machine

@[simp] theorem Memory.read_nil (a : Nat) : Memory.read [] a = Memory.unlisted := rfl

theorem Memory.read_cons (k : Nat) (v : Byte) (m : Memory) (a : Nat) :
    Memory.read ((k, v) :: m) a = if k = a then v else Memory.read m a := rfl

/-- An address no cell has reads as unlisted. -/
theorem Memory.read_of_absent (m : Memory) (a : Nat) (h : ∀ c ∈ m, c.1 ≠ a) :
    m.read a = Memory.unlisted := by
  induction m with
  | nil => rfl
  | cons c rest ih =>
    obtain ⟨k, v⟩ := c
    have hk : k ≠ a := h (k, v) (by simp)
    rw [Memory.read_cons, if_neg hk]
    exact ih (fun c hc => h c (List.mem_cons_of_mem _ hc))

/-- Reading a listed cell's address, when the addresses rise strictly. -/
theorem Memory.read_of_mem (m : Memory) (hm : m.Pairwise (fun p q => p.1 < q.1)) (c : Host.Cell)
    (h : c ∈ m) : m.read c.1 = c.2 := by
  induction m with
  | nil => cases h
  | cons d rest ih =>
    obtain ⟨hd, hrest⟩ := List.pairwise_cons.mp hm
    rw [Memory.read_cons]
    rcases List.mem_cons.mp h with rfl | h'
    · simp
    · rw [if_neg (Nat.ne_of_lt (hd c h'))]
      exact ih hrest h'

theorem Memory.read_filter (m : Memory) (a b : Nat) :
    Memory.read (m.filter (fun cell => cell.1 != a)) b = if b = a then Memory.unlisted else m.read b := by
  induction m with
  | nil => simp
  | cons c rest ih =>
    obtain ⟨k, v⟩ := c
    by_cases hk : k = a
    · subst hk
      by_cases hb : b = k
      · simpa [hb] using ih
      · have : ¬ k = b := fun h => hb h.symm
        simpa [hb, this, Memory.read_cons] using ih
    · have hka : (k != a) = true := by simpa using hk
      simp only [List.filter_cons, hka, if_true, Memory.read_cons, ih]
      by_cases hkb : k = b
      · subst hkb; simp [hk]
      · simp [hkb]

theorem Memory.read_insertCell (m : Memory) (a b : Nat) (v : Byte) (h : ∀ c ∈ m, c.1 ≠ a) :
    Memory.read (Memory.insertCell a v m) b = if b = a then v else m.read b := by
  induction m with
  | nil => simp [Memory.insertCell, Memory.read_cons, eq_comm]
  | cons c rest ih =>
    obtain ⟨k, w⟩ := c
    have hk : k ≠ a := h (k, w) (by simp)
    have ih' := ih (fun c hc => h c (List.mem_cons_of_mem _ hc))
    by_cases hlt : a < k
    · simp only [Memory.insertCell, hlt, if_true, Memory.read_cons]
      by_cases hb : b = a
      · simp [hb]
      · have : ¬ a = b := fun e => hb e.symm
        simp [hb, this]
    · simp only [Memory.insertCell, hlt, if_false, Memory.read_cons, ih']
      by_cases hb : b = a
      · subst hb; simp [hk]
      · simp [hb]

/-- A read after a write, at the same address and elsewhere (spec/20_memory.md R102, R119), whatever the
memory. -/
theorem Memory.read_write (m : Memory) (a b : Nat) (v : Byte) :
    (m.write a v).read b = if b = a then v else m.read b := by
  have habs : ∀ c ∈ m.filter (fun cell => cell.1 != a), c.1 ≠ a := by
    intro c hc; simpa using (List.mem_filter.mp hc).2
  unfold Memory.write
  by_cases hv : v = Memory.unlisted
  · simp only [hv, if_true, Memory.read_filter]
  · simp only [hv, if_false]
    rw [Memory.read_insertCell _ _ _ _ habs, Memory.read_filter]
    by_cases hb : b = a <;> simp [hb]

@[simp] theorem Memory.read_write_same (m : Memory) (a : Nat) (v : Byte) : (m.write a v).read a = v := by
  simp [Memory.read_write]

theorem Memory.read_write_other (m : Memory) (a b : Nat) (v : Byte) (h : b ≠ a) :
    (m.write a v).read b = m.read b := by
  simp [Memory.read_write, h]

/-- The cells after an insertion: the new one and the old ones. -/
theorem Memory.mem_insertCell (m : Memory) (a : Nat) (v : Byte) (c : Host.Cell) :
    c ∈ Memory.insertCell a v m ↔ c = (a, v) ∨ c ∈ m := by
  induction m with
  | nil => simp [Memory.insertCell]
  | cons d rest ih =>
    obtain ⟨k, w⟩ := d
    by_cases hlt : a < k
    · simp [Memory.insertCell, hlt]
    · simp only [Memory.insertCell, hlt, if_false, List.mem_cons, ih]
      tauto

theorem Memory.insertCell_sorted (m : Memory) (a : Nat) (v : Byte)
    (hm : m.Pairwise (fun p q => p.1 < q.1)) (h : ∀ c ∈ m, c.1 ≠ a) :
    (Memory.insertCell a v m).Pairwise (fun p q => p.1 < q.1) := by
  induction m with
  | nil => simp [Memory.insertCell]
  | cons d rest ih =>
    obtain ⟨k, w⟩ := d
    obtain ⟨hd, hrest⟩ := List.pairwise_cons.mp hm
    have hk : k ≠ a := h (k, w) (by simp)
    by_cases hlt : a < k
    · simp only [Memory.insertCell, hlt, if_true]
      refine List.pairwise_cons.mpr ⟨?_, hm⟩
      intro c hc
      rcases List.mem_cons.mp hc with rfl | hc'
      · exact hlt
      · exact Nat.lt_trans hlt (hd c hc')
    · simp only [Memory.insertCell, hlt, if_false]
      refine List.pairwise_cons.mpr ⟨?_, ih hrest (fun c hc => h c (List.mem_cons_of_mem _ hc))⟩
      intro c hc
      rcases (Memory.mem_insertCell rest a v c).mp hc with rfl | hc'
      · show k < a; omega
      · exact hd c hc'

/-- A write keeps the canonical form. -/
theorem Memory.wf_write (m : Memory) (a : Nat) (v : Byte) (ha : a < 65536) (hm : m.wf) :
    (m.write a v).wf := by
  obtain ⟨hs, hc⟩ := hm
  have hfs : (m.filter (fun cell => cell.1 != a)).Pairwise (fun p q => p.1 < q.1) := hs.filter _
  have hfc : ∀ c ∈ m.filter (fun cell => cell.1 != a), c.1 < 65536 ∧ c.2 ≠ Memory.unlisted :=
    fun c h => hc c (List.mem_filter.mp h).1
  unfold Memory.write
  by_cases hv : v = Memory.unlisted
  · simp only [hv, if_true]; exact ⟨hfs, hfc⟩
  · simp only [hv, if_false]
    have habs : ∀ c ∈ m.filter (fun cell => cell.1 != a), c.1 ≠ a := by
      intro c hc'; simpa using (List.mem_filter.mp hc').2
    refine ⟨Memory.insertCell_sorted _ _ _ hfs habs, ?_⟩
    intro c hc'
    rcases (Memory.mem_insertCell _ a v c).mp hc' with rfl | h
    · exact ⟨ha, hv⟩
    · exact hfc c h

/-- Two canonical memories that read alike at every address of the space have the same cells. -/
theorem Memory.subset_of_read_eq (m n : Memory) (hm : m.wf) (hn : n.wf)
    (h : ∀ a < 65536, m.read a = n.read a) : ∀ c ∈ m, c ∈ n := by
  intro c hc
  have hr := Memory.read_of_mem m hm.1 c hc
  obtain ⟨hlt, hne⟩ := hm.2 c hc
  rw [h c.1 hlt] at hr
  by_cases habs : ∀ d ∈ n, d.1 ≠ c.1
  · exact absurd (hr ▸ Memory.read_of_absent n c.1 habs) hne
  · obtain ⟨d, hd, hdc⟩ : ∃ d ∈ n, d.1 = c.1 := by
      by_contra hno
      exact habs (fun d hd hdc => hno ⟨d, hd, hdc⟩)
    have hd2 := Memory.read_of_mem n hn.1 d hd
    rw [hdc, hr] at hd2
    have : d = c := Prod.ext hdc hd2.symm
    exact this ▸ hd

/-- Strictly rising lists with the same cells are equal. -/
theorem Memory.eq_of_subset_subset (m n : Memory) (hm : m.Pairwise (fun p q => p.1 < q.1))
    (hn : n.Pairwise (fun p q => p.1 < q.1)) (hmn : ∀ c ∈ m, c ∈ n) (hnm : ∀ c ∈ n, c ∈ m) : m = n := by
  induction m generalizing n with
  | nil =>
    cases n with
    | nil => rfl
    | cons d rest => exact absurd (hnm d (by simp)) (by simp)
  | cons c m' ih =>
    cases n with
    | nil => exact absurd (hmn c (by simp)) (by simp)
    | cons d n' =>
      obtain ⟨hc, hm'⟩ := List.pairwise_cons.mp hm
      obtain ⟨hd, hn'⟩ := List.pairwise_cons.mp hn
      have hcd : c = d := by
        rcases List.mem_cons.mp (hmn c (by simp)) with h | h
        · exact h
        · rcases List.mem_cons.mp (hnm d (by simp)) with h' | h'
          · exact h'.symm
          · exact absurd (hd c h) (Nat.not_lt.mpr (Nat.le_of_lt (hc d h')))
      subst hcd
      refine congrArg (c :: ·) (ih n' hm' hn' ?_ ?_)
      · intro e he
        rcases List.mem_cons.mp (hmn e (List.mem_cons_of_mem _ he)) with h | h
        · exact absurd (hc e he) (h ▸ Nat.lt_irrefl _)
        · exact h
      · intro e he
        rcases List.mem_cons.mp (hnm e (List.mem_cons_of_mem _ he)) with h | h
        · exact absurd (hd e he) (h ▸ Nat.lt_irrefl _)
        · exact h

/-- Canonical memories that read alike are equal data. -/
theorem Memory.ext_of_wf (m n : Memory) (hm : m.wf) (hn : n.wf)
    (h : ∀ a < 65536, m.read a = n.read a) : m = n :=
  Memory.eq_of_subset_subset m n hm.1 hn.1 (Memory.subset_of_read_eq m n hm hn h)
    (Memory.subset_of_read_eq n m hn hm (fun a ha => (h a ha).symm))

end Sys2Proof.Machine
end

