-- ==== Sys2Proof/Laws/State.lean ====
section
/-! SUPPORT. One lemma per field per named update of the state, each true by rfl, so that no later proof
unfolds an update; and the accessors that look only at memory. -/

namespace Sys2Proof.Machine

variable (s : State)

@[simp] theorem State.advance_a (n : Nat) :
    (s.advance n).a = s.a := rfl
@[simp] theorem State.advance_x (n : Nat) :
    (s.advance n).x = s.x := rfl
@[simp] theorem State.advance_y (n : Nat) :
    (s.advance n).y = s.y := rfl
@[simp] theorem State.advance_sp (n : Nat) :
    (s.advance n).sp = s.sp := rfl
@[simp] theorem State.advance_pc (n : Nat) :
    (s.advance n).pc = s.pc + BitVec.ofNat 16 n := rfl
@[simp] theorem State.advance_flags (n : Nat) :
    (s.advance n).flags = s.flags := rfl
@[simp] theorem State.advance_iPoll (n : Nat) :
    (s.advance n).iPoll = s.iPoll := rfl
@[simp] theorem State.advance_nmiPending (n : Nat) :
    (s.advance n).nmiPending = s.nmiPending := rfl
@[simp] theorem State.advance_irqPending (n : Nat) :
    (s.advance n).irqPending = s.irqPending := rfl
@[simp] theorem State.advance_run (n : Nat) :
    (s.advance n).run = s.run := rfl
@[simp] theorem State.advance_cycles (n : Nat) :
    (s.advance n).cycles = s.cycles := rfl
@[simp] theorem State.advance_mem (n : Nat) :
    (s.advance n).mem = s.mem := rfl
@[simp] theorem State.advance_devices (n : Nat) :
    (s.advance n).devices = s.devices := rfl
@[simp] theorem State.advance_resetDone (n : Nat) :
    (s.advance n).resetDone = s.resetDone := rfl

@[simp] theorem State.write_a (p : Addr) (v : Byte) :
    (s.write p v).a = s.a := rfl
@[simp] theorem State.write_x (p : Addr) (v : Byte) :
    (s.write p v).x = s.x := rfl
@[simp] theorem State.write_y (p : Addr) (v : Byte) :
    (s.write p v).y = s.y := rfl
@[simp] theorem State.write_sp (p : Addr) (v : Byte) :
    (s.write p v).sp = s.sp := rfl
@[simp] theorem State.write_pc (p : Addr) (v : Byte) :
    (s.write p v).pc = s.pc := rfl
@[simp] theorem State.write_flags (p : Addr) (v : Byte) :
    (s.write p v).flags = s.flags := rfl
@[simp] theorem State.write_iPoll (p : Addr) (v : Byte) :
    (s.write p v).iPoll = s.iPoll := rfl
@[simp] theorem State.write_nmiPending (p : Addr) (v : Byte) :
    (s.write p v).nmiPending = s.nmiPending := rfl
@[simp] theorem State.write_irqPending (p : Addr) (v : Byte) :
    (s.write p v).irqPending = s.irqPending := rfl
@[simp] theorem State.write_run (p : Addr) (v : Byte) :
    (s.write p v).run = s.run := rfl
@[simp] theorem State.write_cycles (p : Addr) (v : Byte) :
    (s.write p v).cycles = s.cycles := rfl
@[simp] theorem State.write_mem (p : Addr) (v : Byte) :
    (s.write p v).mem = s.mem.write p.toNat v := rfl
@[simp] theorem State.write_devices (p : Addr) (v : Byte) :
    (s.write p v).devices = s.devices := rfl
@[simp] theorem State.write_resetDone (p : Addr) (v : Byte) :
    (s.write p v).resetDone = s.resetDone := rfl

@[simp] theorem State.push_a (v : Byte) :
    (s.push v).a = s.a := rfl
@[simp] theorem State.push_x (v : Byte) :
    (s.push v).x = s.x := rfl
@[simp] theorem State.push_y (v : Byte) :
    (s.push v).y = s.y := rfl
@[simp] theorem State.push_sp (v : Byte) :
    (s.push v).sp = s.sp - 1#8 := rfl
@[simp] theorem State.push_pc (v : Byte) :
    (s.push v).pc = s.pc := rfl
@[simp] theorem State.push_flags (v : Byte) :
    (s.push v).flags = s.flags := rfl
@[simp] theorem State.push_iPoll (v : Byte) :
    (s.push v).iPoll = s.iPoll := rfl
@[simp] theorem State.push_nmiPending (v : Byte) :
    (s.push v).nmiPending = s.nmiPending := rfl
@[simp] theorem State.push_irqPending (v : Byte) :
    (s.push v).irqPending = s.irqPending := rfl
@[simp] theorem State.push_run (v : Byte) :
    (s.push v).run = s.run := rfl
@[simp] theorem State.push_cycles (v : Byte) :
    (s.push v).cycles = s.cycles := rfl
@[simp] theorem State.push_mem (v : Byte) :
    (s.push v).mem = s.mem.write (stackAddr s.sp).toNat v := rfl
@[simp] theorem State.push_devices (v : Byte) :
    (s.push v).devices = s.devices := rfl
@[simp] theorem State.push_resetDone (v : Byte) :
    (s.push v).resetDone = s.resetDone := rfl

@[simp] theorem State.push16_a (p : Addr) :
    (s.push16 p).a = s.a := rfl
@[simp] theorem State.push16_x (p : Addr) :
    (s.push16 p).x = s.x := rfl
@[simp] theorem State.push16_y (p : Addr) :
    (s.push16 p).y = s.y := rfl
@[simp] theorem State.push16_sp (p : Addr) :
    (s.push16 p).sp = s.sp - 1#8 - 1#8 := rfl
@[simp] theorem State.push16_pc (p : Addr) :
    (s.push16 p).pc = s.pc := rfl
@[simp] theorem State.push16_flags (p : Addr) :
    (s.push16 p).flags = s.flags := rfl
@[simp] theorem State.push16_iPoll (p : Addr) :
    (s.push16 p).iPoll = s.iPoll := rfl
@[simp] theorem State.push16_nmiPending (p : Addr) :
    (s.push16 p).nmiPending = s.nmiPending := rfl
@[simp] theorem State.push16_irqPending (p : Addr) :
    (s.push16 p).irqPending = s.irqPending := rfl
@[simp] theorem State.push16_run (p : Addr) :
    (s.push16 p).run = s.run := rfl
@[simp] theorem State.push16_cycles (p : Addr) :
    (s.push16 p).cycles = s.cycles := rfl
@[simp] theorem State.push16_mem (p : Addr) :
    (s.push16 p).mem = (s.mem.write (stackAddr s.sp).toNat (highByte p)).write (stackAddr (s.sp - 1#8)).toNat (lowByte p) := rfl
@[simp] theorem State.push16_devices (p : Addr) :
    (s.push16 p).devices = s.devices := rfl
@[simp] theorem State.push16_resetDone (p : Addr) :
    (s.push16 p).resetDone = s.resetDone := rfl

@[simp] theorem State.afterPull_a :
    (s.afterPull).a = s.a := rfl
@[simp] theorem State.afterPull_x :
    (s.afterPull).x = s.x := rfl
@[simp] theorem State.afterPull_y :
    (s.afterPull).y = s.y := rfl
@[simp] theorem State.afterPull_sp :
    (s.afterPull).sp = s.sp + 1#8 := rfl
@[simp] theorem State.afterPull_pc :
    (s.afterPull).pc = s.pc := rfl
@[simp] theorem State.afterPull_flags :
    (s.afterPull).flags = s.flags := rfl
@[simp] theorem State.afterPull_iPoll :
    (s.afterPull).iPoll = s.iPoll := rfl
@[simp] theorem State.afterPull_nmiPending :
    (s.afterPull).nmiPending = s.nmiPending := rfl
@[simp] theorem State.afterPull_irqPending :
    (s.afterPull).irqPending = s.irqPending := rfl
@[simp] theorem State.afterPull_run :
    (s.afterPull).run = s.run := rfl
@[simp] theorem State.afterPull_cycles :
    (s.afterPull).cycles = s.cycles := rfl
@[simp] theorem State.afterPull_mem :
    (s.afterPull).mem = s.mem := rfl
@[simp] theorem State.afterPull_devices :
    (s.afterPull).devices = s.devices := rfl
@[simp] theorem State.afterPull_resetDone :
    (s.afterPull).resetDone = s.resetDone := rfl

@[simp] theorem finish_a (op : Byte) (i0 cr : Bool) (ex : Nat) :
    (finish op i0 cr ex s).a = s.a := rfl
@[simp] theorem finish_x (op : Byte) (i0 cr : Bool) (ex : Nat) :
    (finish op i0 cr ex s).x = s.x := rfl
@[simp] theorem finish_y (op : Byte) (i0 cr : Bool) (ex : Nat) :
    (finish op i0 cr ex s).y = s.y := rfl
@[simp] theorem finish_sp (op : Byte) (i0 cr : Bool) (ex : Nat) :
    (finish op i0 cr ex s).sp = s.sp := rfl
@[simp] theorem finish_pc (op : Byte) (i0 cr : Bool) (ex : Nat) :
    (finish op i0 cr ex s).pc = s.pc := rfl
@[simp] theorem finish_flags (op : Byte) (i0 cr : Bool) (ex : Nat) :
    (finish op i0 cr ex s).flags = s.flags := rfl
@[simp] theorem finish_iPoll (op : Byte) (i0 cr : Bool) (ex : Nat) :
    (finish op i0 cr ex s).iPoll = if delaysMask op then i0 else s.flags.i := rfl
@[simp] theorem finish_nmiPending (op : Byte) (i0 cr : Bool) (ex : Nat) :
    (finish op i0 cr ex s).nmiPending = s.nmiPending := rfl
@[simp] theorem finish_irqPending (op : Byte) (i0 cr : Bool) (ex : Nat) :
    (finish op i0 cr ex s).irqPending = s.irqPending := rfl
@[simp] theorem finish_run (op : Byte) (i0 cr : Bool) (ex : Nat) :
    (finish op i0 cr ex s).run = s.run := rfl
@[simp] theorem finish_cycles (op : Byte) (i0 cr : Bool) (ex : Nat) :
    (finish op i0 cr ex s).cycles = s.cycles + BitVec.ofNat 64 (cycleCount op cr ex) := rfl
@[simp] theorem finish_mem (op : Byte) (i0 cr : Bool) (ex : Nat) :
    (finish op i0 cr ex s).mem = s.mem := rfl
@[simp] theorem finish_devices (op : Byte) (i0 cr : Bool) (ex : Nat) :
    (finish op i0 cr ex s).devices = s.devices := rfl
@[simp] theorem finish_resetDone (op : Byte) (i0 cr : Bool) (ex : Nat) :
    (finish op i0 cr ex s).resetDone = s.resetDone := rfl

/-! ## The default bus

RAM at every address (spec/20_memory.md R102): a read leaves the state as it was. So each operation over a bus
is, on the default bus, its short name beside the state it started from. -/

/-- A read of the default bus is a read of the backing store. -/
theorem State.read_eq_mem (p : Addr) : s.read p = s.mem.read p.toNat := rfl

@[simp] theorem State.readOn_default (p : Addr) : s.readOn Config.bus p = (s.read p, s) := rfl

@[simp] theorem State.writeOn_default (p : Addr) (v : Byte) : s.writeOn Config.bus p v = s.write p v := rfl

@[simp] theorem State.pushOn_default (v : Byte) : s.pushOn Config.bus v = s.push v := rfl

@[simp] theorem State.push16On_default (p : Addr) : s.push16On Config.bus p = s.push16 p := rfl

@[simp] theorem State.pullOn_default : s.pullOn Config.bus = (s.pulled, s.afterPull) := rfl

@[simp] theorem State.pull16On_default :
    s.pull16On Config.bus = (s.pulled16, s.afterPull.afterPull) := rfl

@[simp] theorem State.read16On_default (p : Addr) : s.read16On Config.bus p = (s.read16 p, s) := rfl

@[simp] theorem State.readZp16On_default (z : Byte) : s.readZp16On Config.bus z = (s.readZp16 z, s) := rfl

@[simp] theorem State.readJmpIndOn_default (p : Addr) :
    s.readJmpIndOn Config.bus p = (s.readJmpInd p, s) := rfl

@[simp] theorem resolveOn_default (o : Operand) : resolveOn Config.bus o s = (resolve o s, s) := by
  cases o <;> first | rfl | (rename_i m; cases m <;> first | rfl | (rename_i ix; cases ix <;> rfl))

/-! ## The short names, from bytes -/

theorem State.read16_eq (p : Addr) : s.read16 p = word16 (s.read p) (s.read (p + 1#16)) := rfl

theorem State.readZp16_eq (z : Byte) :
    s.readZp16 z = word16 (s.read (zeroPage z)) (s.read (zeroPage (z + 1#8))) := rfl

theorem State.readJmpInd_eq (p : Addr) : s.readJmpInd p = word16 (s.read p) (s.read (jumpHighAt p)) := rfl

theorem State.pulled_eq : s.pulled = s.read (stackAddr (s.sp + 1#8)) := rfl

theorem State.pulled16_eq : s.pulled16 = word16 s.pulled s.afterPull.pulled := rfl

/-! ## Reads after an update that keeps memory -/

@[simp] theorem State.read_advance (n : Nat) (p : Addr) : (s.advance n).read p = s.read p := rfl

@[simp] theorem State.read_afterPull (p : Addr) : s.afterPull.read p = s.read p := rfl

@[simp] theorem State.read_finish (op : Byte) (i0 cr : Bool) (ex : Nat) (p : Addr) :
    (finish op i0 cr ex s).read p = s.read p := rfl

/-- A state made of given parts reads from the memory it is given. -/
theorem State.read_mk (a x y sp : Byte) (pc : Addr) (f : Flags) (ip np iq : Bool) (r : RunState)
    (c : CycleCount) (m : Memory) (ds : List Nat) (rd : Bool) (p : Addr) :
    (State.mk a x y sp pc f ip np iq r c m ds rd).read p = m.read p.toNat := rfl

end Sys2Proof.Machine
end

