-- ==== Sys2Proof/Laws/Ops.lean ====
section
/-! SUPPORT. What the shared operations do, said once: reads after writes and pushes, the interrupt entry, the
return, and that each keeps the canonical form of memory. -/

namespace Sys2Proof.Machine

/-- A read after a write (spec/20_memory.md R119), from any state. -/
theorem State.read_write (s : State) (p q : Addr) (v : Byte) :
    (s.write p v).read q = if q = p then v else s.read q := by
  rw [State.read_eq_mem, State.read_eq_mem, State.write_mem, Memory.read_write]
  by_cases h : q = p
  · simp [h]
  · have : ¬ q.toNat = p.toNat := fun e => h (BitVec.eq_of_toNat_eq e)
    simp [h, this]

theorem State.read_push (s : State) (v : Byte) (q : Addr) :
    (s.push v).read q = if q = stackAddr s.sp then v else s.read q :=
  s.read_write (stackAddr s.sp) q v

theorem State.read_push16 (s : State) (p q : Addr) :
    (s.push16 p).read q =
      if q = stackAddr (s.sp - 1#8) then lowByte p
      else if q = stackAddr s.sp then highByte p else s.read q := by
  show ((s.push (highByte p)).push (lowByte p)).read q = _
  simp only [State.read_push, State.push_sp]

/-- A 16-bit value as a number. -/
theorem toNat_word16 (lo hi : Byte) : (word16 lo hi).toNat = 256 * hi.toNat + lo.toNat := by
  have h := BitVec.toNat_append hi lo
  have e : hi.toNat <<< 8 ||| lo.toNat = hi.toNat <<< 8 + lo.toNat :=
    (Nat.shiftLeft_add_eq_or_of_lt lo.isLt _).symm
  rw [e, Nat.shiftLeft_eq] at h
  show (hi ++ lo).toNat = _
  omega

/-- The low byte as a number. -/
theorem toNat_lowByte (a : Addr) : (lowByte a).toNat = a.toNat % 256 := by
  simp [lowByte, BitVec.extractLsb'_toNat]

/-- The high byte as a number. -/
theorem toNat_highByte (a : Addr) : (highByte a).toNat = a.toNat / 256 := by
  have : a.toNat < 65536 := a.isLt
  simp [highByte, BitVec.extractLsb'_toNat, Nat.shiftRight_eq_div_pow]
  omega

/-- The high and low byte make the address again. -/
@[simp] theorem word16_lowByte_highByte (a : Addr) : word16 (lowByte a) (highByte a) = a := by
  apply BitVec.eq_of_toNat_eq
  rw [toNat_word16, toNat_lowByte, toNat_highByte]
  omega

@[simp] theorem lowByte_word16 (lo hi : Byte) : lowByte (word16 lo hi) = lo := by
  apply BitVec.eq_of_toNat_eq
  have : lo.toNat < 256 := lo.isLt
  rw [toNat_lowByte, toNat_word16]
  omega

@[simp] theorem highByte_word16 (lo hi : Byte) : highByte (word16 lo hi) = hi := by
  apply BitVec.eq_of_toNat_eq
  have : lo.toNat < 256 := lo.isLt
  rw [toNat_highByte, toNat_word16]
  omega

/-- Two stack addresses are equal only when the offsets are (spec/20_memory.md R112). -/
theorem stackAddr_inj (p q : Byte) : stackAddr p = stackAddr q ↔ p = q := by
  constructor
  · intro h
    have e : lowByte (stackAddr p) = lowByte (stackAddr q) := by rw [h]
    simpa only [stackAddr, lowByte_word16] using e
  · rintro rfl; rfl

/-- No vector lies in the stack page. -/
theorem vector_ne_stackAddr (k : Addr) (hk : 0xFF00#16 ≤ k) (p : Byte) : k ≠ stackAddr p := by
  rintro rfl
  have h1 : (stackAddr p).toNat = 256 * (0x01#8).toNat + p.toNat := toNat_word16 p 0x01#8
  have h2 : (0xFF00#16).toNat ≤ (stackAddr p).toNat := hk
  have h3 : p.toNat < 256 := p.isLt
  simp at h1 h2
  omega

/-! ## The canonical form is kept -/

theorem State.wf_write (s : State) (p : Addr) (v : Byte) (h : s.mem.wf) : (s.write p v).mem.wf :=
  Memory.wf_write _ _ _ p.isLt h

theorem State.wf_push (s : State) (v : Byte) (h : s.mem.wf) : (s.push v).mem.wf := s.wf_write _ _ h

theorem State.wf_push16 (s : State) (a : Addr) (h : s.mem.wf) : (s.push16 a).mem.wf :=
  State.wf_push _ _ (State.wf_push _ _ h)

theorem State.wf_loadBytes (bytes : List Byte) (s : State) (a : Addr) (h : s.mem.wf) :
    (s.loadBytes a bytes).mem.wf := by
  induction bytes generalizing s a with
  | nil => exact h
  | cons v rest ih => exact ih _ _ (s.wf_write a v h)

/-! ## The status byte -/

@[simp] theorem Flags.unpack_pack (f : Flags) (b : Bool) : Flags.unpack (f.pack b) = { f with b := false } := by
  obtain ⟨c, z, i, d, b', v, n⟩ := f
  revert c z i d b' v n b
  decide

/-! ## The entry and the return -/

section Entry

variable (b : Bool) (vec : Addr) (s : State)

@[simp] theorem interruptEntryOn_default :
    interruptEntryOn Config.bus b vec s = interruptEntry b vec s := rfl

/-- The entry on the default bus: its pushes, and the fields it sets (R605). -/
theorem interruptEntry_eq :
    interruptEntry b vec s =
      { ((s.push16 s.pc).push (s.flags.pack b)) with
        flags := { s.flags with i := true }
        iPoll := true
        pc := ((s.push16 s.pc).push (s.flags.pack b)).read16 vec } := by
  simp only [interruptEntry, interruptEntryOn, State.push16On_default, State.pushOn_default,
    State.read16On_default, State.push_flags, State.push16_flags]

@[simp] theorem interruptEntry_a : (interruptEntry b vec s).a = s.a := by
  simp [interruptEntry_eq]
@[simp] theorem interruptEntry_x : (interruptEntry b vec s).x = s.x := by
  simp [interruptEntry_eq]
@[simp] theorem interruptEntry_y : (interruptEntry b vec s).y = s.y := by
  simp [interruptEntry_eq]
@[simp] theorem interruptEntry_sp : (interruptEntry b vec s).sp = s.sp - 3#8 := by
  have e : s.sp - 1#8 - 1#8 - 1#8 = s.sp - 3#8 := by generalize s.sp = p; bv_omega
  simp [interruptEntry_eq, e]
@[simp] theorem interruptEntry_flags : (interruptEntry b vec s).flags = { s.flags with i := true } := by
  simp [interruptEntry_eq]
@[simp] theorem interruptEntry_iPoll : (interruptEntry b vec s).iPoll = true := by
  simp [interruptEntry_eq]
@[simp] theorem interruptEntry_nmiPending : (interruptEntry b vec s).nmiPending = s.nmiPending := by
  simp [interruptEntry_eq]
@[simp] theorem interruptEntry_irqPending : (interruptEntry b vec s).irqPending = s.irqPending := by
  simp [interruptEntry_eq]
@[simp] theorem interruptEntry_run : (interruptEntry b vec s).run = s.run := by
  simp [interruptEntry_eq]
@[simp] theorem interruptEntry_cycles : (interruptEntry b vec s).cycles = s.cycles := by
  simp [interruptEntry_eq]
@[simp] theorem interruptEntry_devices : (interruptEntry b vec s).devices = s.devices := by
  simp [interruptEntry_eq]
@[simp] theorem interruptEntry_resetDone : (interruptEntry b vec s).resetDone = s.resetDone := by
  simp [interruptEntry_eq]
theorem interruptEntry_mem :
    (interruptEntry b vec s).mem = ((s.push16 s.pc).push (s.flags.pack b)).mem := by
  rw [interruptEntry_eq]

end Entry

theorem interruptEntry_wf (b : Bool) (vec : Addr) (s : State) (h : s.mem.wf) :
    (interruptEntry b vec s).mem.wf := by
  rw [interruptEntry_mem]
  exact State.wf_push _ _ (State.wf_push16 _ _ h)

/-- What the entry pushes: PC, high byte first, and the status byte (R605). -/
theorem interruptEntry_read (b : Bool) (vec : Addr) (s : State) (q : Addr) :
    (interruptEntry b vec s).read q =
      if q = stackAddr (s.sp - 2#8) then s.flags.pack b
      else if q = stackAddr (s.sp - 1#8) then lowByte s.pc
      else if q = stackAddr s.sp then highByte s.pc
      else s.read q := by
  have e : s.sp - 1#8 - 1#8 = s.sp - 2#8 := by generalize s.sp = p; bv_omega
  rw [State.read_eq_mem, interruptEntry_mem, ← State.read_eq_mem]
  simp only [State.read_push, State.read_push16, State.push16_sp, e]

/-- Where the entry goes: the vectors lie outside the stack page, so the pushes do not touch them. -/
theorem interruptEntry_pc (b : Bool) (vec : Addr) (s : State) (h0 : 0xFF00#16 ≤ vec)
    (h1 : 0xFF00#16 ≤ vec + 1#16) :
    (interruptEntry b vec s).pc = word16 (s.read vec) (s.read (vec + 1#16)) := by
  have r0 := interruptEntry_read b vec s vec
  have r1 := interruptEntry_read b vec s (vec + 1#16)
  simp only [vector_ne_stackAddr vec h0, vector_ne_stackAddr _ h1, if_false] at r0 r1
  rw [← r0, ← r1]
  simp only [interruptEntry_eq, State.read16_eq, State.read_mk, ← State.read_eq_mem]

/-! ## Reset -/

/-- `reset()` of this hardware, from bytes (spec/70_reset_and_hazards.md R701). -/
theorem Driver.reset_eq (s : State) :
    Driver.reset s = { s with
      pc := s.read16 resetVector
      sp := 0xFD#8
      flags := { c := false, z := false, i := true, d := false, b := false, v := false, n := false }
      iPoll := true
      nmiPending := false
      irqPending := false
      run := .running
      cycles := 7#64
      resetDone := true } := rfl

/-- The reset state is what `reset()` makes of any power-on whose OPEN parameters are the spec's reference
values, on a bus without devices (assumptions 1, 2 and 5). -/
theorem reset_eq_driver_reset (p : PowerOn) (ha : p.a = 0x00#8) (hx : p.x = 0x00#8) (hy : p.y = 0x00#8)
    (hm : p.mem = []) (hd : p.devices = []) : Driver.reset (State.powerOn p) = State.reset := by
  have e : (State.powerOn p).read16 resetVector = 0x0000#16 := by
    simp only [State.read16_eq, State.read_eq_mem, State.powerOn, hm, Memory.read, word16]
    decide
  rw [Driver.reset_eq, e]
  simp only [State.powerOn, State.reset, ha, hx, hy, hm, hd]

end Sys2Proof.Machine
end

