-- ==== Sys2Proof/Laws/Shapes.lean ====
section
/-! SUPPORT. What an instruction step can do, said once: every `exec i s` is the one shape `instruction` around
the effect of the mnemonic on the operand, so a fact about all 256 opcodes is one about 77 mnemonics. -/

namespace Sys2Proof.Machine

/-! ## The default bus -/

/-- The effect of a mnemonic on the default bus, after the fetches. -/
def effectOf (mn : Mnemonic) (o : Operand) (s : State) : State × Nat :=
  effectFor mn o Config.bus (resolve o s) s

/-- The state after an instruction. -/
def afterInstruction (i : Instr) (s : State) : State :=
  finish i.opcode s.flags.i (resolve i.operand (s.advance i.length)).crossed
    (effectOf i.mnemonic i.operand (s.advance i.length)).2 (effectOf i.mnemonic i.operand (s.advance i.length)).1

/-- Each meaning is its row of `effectFor` in the one shape. -/
theorem exec_eq_execOn (i : Instr) (s : State) : exec i s = .next (execOn Config.bus i s) := by
  cases i <;> rfl

theorem execOn_default (i : Instr) (s : State) : execOn Config.bus i s = afterInstruction i s := by
  simp only [execOn, instructionOn, resolveOn_default]
  rfl

/-- Every instruction completes, and its next state is the one above: the inversion of `exec`. -/
theorem exec_eq (i : Instr) (s : State) : exec i s = .next (afterInstruction i s) := by
  rw [exec_eq_execOn, execOn_default]

theorem exec_next_iff {i : Instr} {s t : State} : exec i s = .next t ↔ t = afterInstruction i s := by
  rw [exec_eq]
  exact ⟨fun h => by cases h; rfl, fun h => by rw [h]⟩

/-! ## The effects on the default bus, from bytes -/

section Default

variable (r : Resolved) (s : State)

theorem readEffect_default (f : Byte → State → State) :
    readEffect f Config.bus r s = (f (s.read r.addr) s, 0) := rfl

theorem storeEffect_default (src : State → Byte) :
    storeEffect src Config.bus r s = (s.write r.addr (src s), 0) := rfl

theorem rmwEffect_default (compute : Byte → Flags → Byte × Flags) (after : Byte → State → State) :
    rmwEffect compute after Config.bus r s =
      (after (compute (s.read r.addr) s.flags).1
        ({ s with flags := (compute (s.read r.addr) s.flags).2 }.write r.addr
          (compute (s.read r.addr) s.flags).1), 0) := rfl

theorem unstableEffect_default (before : State → State) (src : State → Byte) :
    unstableEffect before src Config.bus r s =
      ((before s).write (unstableAddr (src (before s)) r) (unstableValue (src (before s)) r), 0) := rfl

theorem pushA_default : pushA Config.bus s = s.push s.a := rfl

theorem pushStatus_default : pushStatus Config.bus s = s.push (s.flags.pack true) := rfl

theorem pullA_default : pullA Config.bus s =
    { s.afterPull with a := s.pulled, flags := s.flags.setNZ s.pulled } := rfl

theorem pullStatus_default : pullStatus Config.bus s =
    { s.afterPull with flags := Flags.unpack s.pulled } := rfl

theorem callSubroutine_default (target : Addr) : callSubroutine Config.bus target s =
    { s.push16 (s.pc - 1#16) with pc := target } := rfl

theorem returnFromSubroutine_default : returnFromSubroutine Config.bus s =
    { s.afterPull.afterPull with pc := s.pulled16 + 1#16 } := rfl

theorem returnFromInterruptOn_default : returnFromInterruptOn Config.bus s =
    { s.afterPull.afterPull.afterPull with
      flags := Flags.unpack s.pulled
      pc := s.afterPull.pulled16 } := rfl

theorem softwareBreak_default : softwareBreak Config.bus s =
    interruptEntry true irqVector { s with pc := s.pc + 1#16 } := rfl

end Default

/-! ## What every form of a class does, from what its parts do

`R` relates the state after the fetches to the state after the effect. -/

section Classes

variable {R : State → State → Prop} (o : Operand) (r : Resolved) (s : State)

theorem readClass_rel {f : Byte → State → State} (h0 : R s s) (hf : ∀ m, R s (f m s)) :
    R s (readClass f o Config.bus r s).1 := by
  cases o <;> first | exact h0 | exact hf _

theorem storeEffect_rel {src : State → Byte} (hw : ∀ p v, R s (s.write p v)) :
    R s (storeEffect src Config.bus r s).1 := hw _ _

theorem rmwEffect_rel {compute : Byte → Flags → Byte × Flags} {after : Byte → State → State}
    (hm : ∀ m p, R s (after (compute m s.flags).1
      ({ s with flags := (compute m s.flags).2 }.write p (compute m s.flags).1))) :
    R s (rmwEffect compute after Config.bus r s).1 := hm _ _

theorem shiftClass_rel {compute : Byte → Flags → Byte × Flags} (h0 : R s s)
    (ha : ∀ m, R s { s with a := (compute m s.flags).1, flags := (compute m s.flags).2 })
    (hm : ∀ m p, R s ({ s with flags := (compute m s.flags).2 }.write p (compute m s.flags).1)) :
    R s (shiftClass compute o Config.bus r s).1 := by
  cases o <;> first | exact h0 | exact ha _ | exact hm _ _

theorem unstableEffect_rel {before : State → State} {src : State → Byte}
    (hw : ∀ p v, R s ((before s).write p v)) : R s (unstableEffect before src Config.bus r s).1 := hw _ _

theorem branchEffect_rel {cond : Flags → Bool} (h0 : R s s) (hp : ∀ p, R s { s with pc := p }) :
    R s (branchEffect cond Config.bus r s).1 := by
  simp only [branchEffect]
  split
  · exact hp _
  · exact h0

theorem jumpEffect_rel {f : Bus → Addr → State → State} (hf : ∀ p, R s (f Config.bus p s)) :
    R s (jumpEffect f Config.bus r s).1 := hf _

end Classes

end Sys2Proof.Machine
end

