-- ==== Sys2Proof/Laws/Boundary.lean ====
section
/-! SUPPORT. What a step does at its boundary: its kind from the fields it looks at, and each field of the two
interrupt services. -/

namespace Sys2Proof.Machine

variable (s : State)

/-! ## Which kind a step is (spec/60_exceptions.md R604) -/

theorem stepKind_jammed (h0 : s.resetDone = true) (h1 : s.run = .jammed) : stepKind s = .jammed := by
  simp [stepKind, h0, h1]

theorem stepKind_nmi (h0 : s.resetDone = true) (h1 : s.run = .running) (h2 : s.nmiPending = true) :
    stepKind s = .nmi := by
  simp [stepKind, h0, h1, h2]

theorem stepKind_irq (h0 : s.resetDone = true) (h1 : s.run = .running) (h2 : s.nmiPending = false)
    (h3 : s.irqPending = true) (h4 : s.iPoll = false) : stepKind s = .irq := by
  simp [stepKind, h0, h1, h2, h3, h4]

theorem stepKind_instruction (h0 : s.resetDone = true) (h1 : s.run = .running) (h2 : s.nmiPending = false)
    (h3 : s.irqPending = false ∨ s.iPoll = true) : stepKind s = .instruction := by
  rcases h3 with h | h <;> simp [stepKind, h0, h1, h2, h]

/-! ## The two services -/

theorem serviceNmi_eq : serviceNmi s =
    { interruptEntry false nmiVector { s with nmiPending := false } with
      cycles := s.cycles + BitVec.ofNat 64 entryCycles } := by
  simp only [serviceNmi, serviceNmiOn, interruptEntryOn_default, interruptEntry_cycles]
@[simp] theorem serviceNmi_a : (serviceNmi s).a = s.a := by
  simp [serviceNmi_eq]
@[simp] theorem serviceNmi_x : (serviceNmi s).x = s.x := by
  simp [serviceNmi_eq]
@[simp] theorem serviceNmi_y : (serviceNmi s).y = s.y := by
  simp [serviceNmi_eq]
@[simp] theorem serviceNmi_sp : (serviceNmi s).sp = s.sp - 3#8 := by
  simp [serviceNmi_eq]
@[simp] theorem serviceNmi_flags : (serviceNmi s).flags = { s.flags with i := true } := by
  simp [serviceNmi_eq]
@[simp] theorem serviceNmi_iPoll : (serviceNmi s).iPoll = true := by
  simp [serviceNmi_eq]
@[simp] theorem serviceNmi_nmiPending : (serviceNmi s).nmiPending = false := by
  simp [serviceNmi_eq]
@[simp] theorem serviceNmi_irqPending : (serviceNmi s).irqPending = s.irqPending := by
  simp [serviceNmi_eq]
@[simp] theorem serviceNmi_run : (serviceNmi s).run = s.run := by
  simp [serviceNmi_eq]
@[simp] theorem serviceNmi_devices : (serviceNmi s).devices = s.devices := by
  simp [serviceNmi_eq]
@[simp] theorem serviceNmi_resetDone : (serviceNmi s).resetDone = s.resetDone := by
  simp [serviceNmi_eq]
@[simp] theorem serviceNmi_cycles : (serviceNmi s).cycles = s.cycles + 7#64 := by
  simp [serviceNmi_eq, entryCycles]
theorem serviceNmi_mem : (serviceNmi s).mem = (interruptEntry false nmiVector s).mem := by
  simp [serviceNmi_eq, interruptEntry_mem]
theorem serviceNmi_wf (h : s.mem.wf) : (serviceNmi s).mem.wf := by
  rw [serviceNmi_mem]
  exact interruptEntry_wf _ _ _ h

theorem serviceIrq_eq : serviceIrq s =
    { interruptEntry false irqVector { s with irqPending := false } with
      cycles := s.cycles + BitVec.ofNat 64 entryCycles } := by
  simp only [serviceIrq, serviceIrqOn, interruptEntryOn_default, interruptEntry_cycles]
@[simp] theorem serviceIrq_a : (serviceIrq s).a = s.a := by
  simp [serviceIrq_eq]
@[simp] theorem serviceIrq_x : (serviceIrq s).x = s.x := by
  simp [serviceIrq_eq]
@[simp] theorem serviceIrq_y : (serviceIrq s).y = s.y := by
  simp [serviceIrq_eq]
@[simp] theorem serviceIrq_sp : (serviceIrq s).sp = s.sp - 3#8 := by
  simp [serviceIrq_eq]
@[simp] theorem serviceIrq_flags : (serviceIrq s).flags = { s.flags with i := true } := by
  simp [serviceIrq_eq]
@[simp] theorem serviceIrq_iPoll : (serviceIrq s).iPoll = true := by
  simp [serviceIrq_eq]
@[simp] theorem serviceIrq_irqPending : (serviceIrq s).irqPending = false := by
  simp [serviceIrq_eq]
@[simp] theorem serviceIrq_nmiPending : (serviceIrq s).nmiPending = s.nmiPending := by
  simp [serviceIrq_eq]
@[simp] theorem serviceIrq_run : (serviceIrq s).run = s.run := by
  simp [serviceIrq_eq]
@[simp] theorem serviceIrq_devices : (serviceIrq s).devices = s.devices := by
  simp [serviceIrq_eq]
@[simp] theorem serviceIrq_resetDone : (serviceIrq s).resetDone = s.resetDone := by
  simp [serviceIrq_eq]
@[simp] theorem serviceIrq_cycles : (serviceIrq s).cycles = s.cycles + 7#64 := by
  simp [serviceIrq_eq, entryCycles]
theorem serviceIrq_mem : (serviceIrq s).mem = (interruptEntry false irqVector s).mem := by
  simp [serviceIrq_eq, interruptEntry_mem]
theorem serviceIrq_wf (h : s.mem.wf) : (serviceIrq s).mem.wf := by
  rw [serviceIrq_mem]
  exact interruptEntry_wf _ _ _ h

/-! ## The fetch and the step on the default bus -/

@[simp] theorem State.readRunOn_default_state (a : Addr) (n : Nat) : (s.readRunOn Config.bus a n).2 = s := by
  induction n generalizing a with
  | zero => rfl
  | succ n ih => exact ih _

/-- The bytes a run of reads gives. -/
theorem State.readRunOn_default_byte (a : Addr) (n k : Nat) (hk : k < n) :
    byteOf (s.readRunOn Config.bus a n).1 k = s.read (a + BitVec.ofNat 16 k) := by
  induction n generalizing a k with
  | zero => omega
  | succ n ih =>
    cases k with
    | zero => simp [State.readRunOn, byteOf]
    | succ k =>
      have e : a + 1#16 + BitVec.ofNat 16 k = a + BitVec.ofNat 16 (k + 1) := by
        rw [BitVec.add_assoc, BitVec.ofNat_add, BitVec.add_comm (BitVec.ofNat 16 k)]
      rw [← e]
      exact ih _ k (by omega)

/-- A fetch leaves the state as it was. -/
theorem fetchOn_default : fetchOn Config.bus s = (fetchInstr s, s) := by
  simp [fetchInstr, fetchOn]

/-- A row of the decoder looks at no byte past the instruction. -/
theorem decodeRow_congr (hi lo : Nibble) (f g : Nat → Byte)
    (h1 : 1 < (descriptorRow hi lo).mode.length → f 1 = g 1)
    (h2 : 2 < (descriptorRow hi lo).mode.length → f 2 = g 2) : decodeRow hi lo f = decodeRow hi lo g := by
  cases hi <;> cases lo <;> first
    | rfl
    | (have e1 := h1 (by decide); have e2 := h2 (by decide); simp only [decodeRow, abs16, e1, e2])
    | (have e1 := h1 (by decide); simp only [decodeRow, rel8, e1])

/-- The decoder looks at no byte past the instruction (spec/20_memory.md R118). -/
theorem decodeAt_congr (f g : Nat → Byte) (h : ∀ k, k < (descriptor (f 0)).mode.length → f k = g k)
    (h0 : f 0 = g 0) : decodeAt f = decodeAt g := by
  unfold decodeAt
  rw [← h0]
  exact decodeRow_congr _ _ f g (h 1) (h 2)

/-- The instruction at PC is that of the bytes from PC on. -/
theorem fetchInstr_eq : fetchInstr s = decodeAt (fun k => s.read (s.pc + BitVec.ofNat 16 k)) := by
  refine decodeAt_congr _ _ (fun k hk => ?_) ?_
  · cases k with
    | zero => simp [byteOf]
    | succ k =>
      have e : s.pc + 1#16 + BitVec.ofNat 16 k = s.pc + BitVec.ofNat 16 (k + 1) := by
        rw [BitVec.add_assoc, BitVec.ofNat_add, BitVec.add_comm (BitVec.ofNat 16 k)]
      rw [← e]
      exact State.readRunOn_default_byte _ _ _ _ (by simpa [byteOf] using Nat.lt_sub_of_add_lt hk)
  · simp [byteOf]

/-- The default machine is the machine over the default bus. -/
theorem step_eq_stepOn : step s = stepOn Config.bus s := by
  unfold step stepOn
  cases stepKind s <;> first | rfl | exact exec_eq_execOn _ _

end Sys2Proof.Machine
end

