-- ==== Sys2Proof/Laws/Cycles.lean ====
section
/-! SUPPORT. What an instruction adds to the cycle counter: no effect touches the counter, the extra cycles of an
effect are a taken branch's, and the shape adds the count of R219. -/

namespace Sys2Proof.Machine

theorem effectOf_cycles (mn : Mnemonic) (o : Operand) (s : State) : (effectOf mn o s).1.cycles = s.cycles := by
  unfold effectOf
  generalize resolve o s = r
  cases mn
  case BRK => exact interruptEntry_cycles true irqVector _
  all_goals simp only [effectFor]
  all_goals first
    | rfl
    | exact readClass_rel (R := fun s t => t.cycles = s.cycles) o r s rfl fun _ => rfl
    | exact shiftClass_rel (R := fun s t => t.cycles = s.cycles) o r s rfl (fun _ => rfl) fun _ _ => rfl
    | exact branchEffect_rel (R := fun s t => t.cycles = s.cycles) r s rfl fun _ => rfl

/-- The second part of an effect is a branch's extra cycles (R219). -/
theorem effectOf_extra (i : Instr) (s u : State) (hu : u.flags = s.flags) :
    (effectOf i.mnemonic i.operand u).2 =
      if branchTaken i.mnemonic s.flags then (if (resolve i.operand u).crossed then 2 else 1) else 0 := by
  unfold effectOf
  generalize resolve i.operand u = r
  cases i <;> first
    | rfl
    | (simp [effectFor, Instr.mnemonic, Instr.view, branchEffect, branchTaken, hu]
       split <;> rfl)

theorem afterInstruction_cycles (i : Instr) (s : State) : (afterInstruction i s).cycles = cyclesAfter i s := by
  simp only [afterInstruction, finish_cycles, effectOf_cycles, cyclesAfter, instrCycles, cycleCount]
  rw [effectOf_extra i s (s.advance i.length) rfl]
  rfl

end Sys2Proof.Machine
end

