-- ==== Sys2Proof/Laws/Forms.lean ====
section
/-! SUPPORT. The forms of a mnemonic, read from the descriptor table alone: the cheaper way to evaluate
`formsOf`. -/

namespace Sys2Proof.Machine

/-- The descriptor's row of an opcode byte, as a form. -/
def formOfRow (n : Nat) : Mnemonic × Form :=
  let d := descriptor (BitVec.ofNat 8 n)
  (d.mnemonic, ⟨BitVec.ofNat 8 n, d.mode, d.mode.length, d.base, d.penalty⟩)

set_option maxRecDepth 8000 in
theorem formOfOpcode_eq_row : ∀ n < 256, formOfOpcode n = formOfRow n := by decide

/-- The forms of a mnemonic, over the descriptor table. -/
def rowFormsOf (mn : Mnemonic) : List Form :=
  (List.range 256).filterMap fun n => if (formOfRow n).1 = mn then some (formOfRow n).2 else none

theorem formsOf_eq_rowFormsOf (mn : Mnemonic) : formsOf mn = rowFormsOf mn := by
  refine List.filterMap_congr fun n hn => ?_
  rw [formOfOpcode_eq_row n (List.mem_range.mp hn)]

end Sys2Proof.Machine
end

