-- ==== Sys2Proof/Laws/PerInstr.lean ====
section
/-! SUPPORT. A law of every instruction as syntax, one lemma per constructor: the row of the descriptor table
at its opcode names it (spec/30_encoding.md R153, R154), and its encoding has the length of its mode (R151). -/

namespace Sys2Proof.Laws

open Sys2Proof.Machine

/-- The row at the instruction's opcode has its mnemonic and mode, and its encoding its length. -/
def Opcode.Statement (i : Instr) : Prop :=
  (descriptor i.opcode).mnemonic = i.mnemonic ∧ (descriptor i.opcode).mode = i.operand.mode ∧
    (encode i).length = i.length

/-- The law from the row of the table that the instruction stands for. -/
theorem Opcode.ofRow {i : Instr} (opcode : Byte) (mnemonic : Mnemonic) (mode : Mode) (ho : i.opcode = opcode)
    (hm : i.mnemonic = mnemonic) (hp : i.operand.mode = mode) (dm : (descriptor opcode).mnemonic = mnemonic)
    (dp : (descriptor opcode).mode = mode) (hl : (encode i).length = i.length) : Opcode.Statement i := by
  subst ho hm hp
  exact ⟨dm, dp, hl⟩

theorem Opcode.brk : Opcode.Statement .brk :=
  Opcode.ofRow 0x00#8 .BRK .implied rfl rfl rfl rfl rfl rfl
theorem Opcode.oraIndX (zp : Byte) : Opcode.Statement (.oraIndX zp) :=
  Opcode.ofRow 0x01#8 .ORA .indirectX rfl rfl rfl rfl rfl rfl
theorem Opcode.jam02 : Opcode.Statement .jam02 :=
  Opcode.ofRow 0x02#8 .JAM .implied rfl rfl rfl rfl rfl rfl
theorem Opcode.sloIndX (zp : Byte) : Opcode.Statement (.sloIndX zp) :=
  Opcode.ofRow 0x03#8 .SLO .indirectX rfl rfl rfl rfl rfl rfl
theorem Opcode.nopZp04 (zp : Byte) : Opcode.Statement (.nopZp04 zp) :=
  Opcode.ofRow 0x04#8 .NOP .zeropage rfl rfl rfl rfl rfl rfl
theorem Opcode.oraZp (zp : Byte) : Opcode.Statement (.oraZp zp) :=
  Opcode.ofRow 0x05#8 .ORA .zeropage rfl rfl rfl rfl rfl rfl
theorem Opcode.aslZp (zp : Byte) : Opcode.Statement (.aslZp zp) :=
  Opcode.ofRow 0x06#8 .ASL .zeropage rfl rfl rfl rfl rfl rfl
theorem Opcode.sloZp (zp : Byte) : Opcode.Statement (.sloZp zp) :=
  Opcode.ofRow 0x07#8 .SLO .zeropage rfl rfl rfl rfl rfl rfl
theorem Opcode.php : Opcode.Statement .php :=
  Opcode.ofRow 0x08#8 .PHP .implied rfl rfl rfl rfl rfl rfl
theorem Opcode.oraImm (v : Byte) : Opcode.Statement (.oraImm v) :=
  Opcode.ofRow 0x09#8 .ORA .immediate rfl rfl rfl rfl rfl rfl
theorem Opcode.aslAcc : Opcode.Statement .aslAcc :=
  Opcode.ofRow 0x0A#8 .ASL .accumulator rfl rfl rfl rfl rfl rfl
theorem Opcode.ancImm0B (v : Byte) : Opcode.Statement (.ancImm0B v) :=
  Opcode.ofRow 0x0B#8 .ANC .immediate rfl rfl rfl rfl rfl rfl
theorem Opcode.nopAbs (addr : Addr) : Opcode.Statement (.nopAbs addr) :=
  Opcode.ofRow 0x0C#8 .NOP .absolute rfl rfl rfl rfl rfl rfl
theorem Opcode.oraAbs (addr : Addr) : Opcode.Statement (.oraAbs addr) :=
  Opcode.ofRow 0x0D#8 .ORA .absolute rfl rfl rfl rfl rfl rfl
theorem Opcode.aslAbs (addr : Addr) : Opcode.Statement (.aslAbs addr) :=
  Opcode.ofRow 0x0E#8 .ASL .absolute rfl rfl rfl rfl rfl rfl
theorem Opcode.sloAbs (addr : Addr) : Opcode.Statement (.sloAbs addr) :=
  Opcode.ofRow 0x0F#8 .SLO .absolute rfl rfl rfl rfl rfl rfl
theorem Opcode.bpl (disp : Int) : Opcode.Statement (.bpl disp) :=
  Opcode.ofRow 0x10#8 .BPL .relative rfl rfl rfl rfl rfl rfl
theorem Opcode.oraIndY (zp : Byte) : Opcode.Statement (.oraIndY zp) :=
  Opcode.ofRow 0x11#8 .ORA .indirectY rfl rfl rfl rfl rfl rfl
theorem Opcode.jam12 : Opcode.Statement .jam12 :=
  Opcode.ofRow 0x12#8 .JAM .implied rfl rfl rfl rfl rfl rfl
theorem Opcode.sloIndY (zp : Byte) : Opcode.Statement (.sloIndY zp) :=
  Opcode.ofRow 0x13#8 .SLO .indirectY rfl rfl rfl rfl rfl rfl
theorem Opcode.nopZpX14 (zp : Byte) : Opcode.Statement (.nopZpX14 zp) :=
  Opcode.ofRow 0x14#8 .NOP .zeropageX rfl rfl rfl rfl rfl rfl
theorem Opcode.oraZpX (zp : Byte) : Opcode.Statement (.oraZpX zp) :=
  Opcode.ofRow 0x15#8 .ORA .zeropageX rfl rfl rfl rfl rfl rfl
theorem Opcode.aslZpX (zp : Byte) : Opcode.Statement (.aslZpX zp) :=
  Opcode.ofRow 0x16#8 .ASL .zeropageX rfl rfl rfl rfl rfl rfl
theorem Opcode.sloZpX (zp : Byte) : Opcode.Statement (.sloZpX zp) :=
  Opcode.ofRow 0x17#8 .SLO .zeropageX rfl rfl rfl rfl rfl rfl
theorem Opcode.clc : Opcode.Statement .clc :=
  Opcode.ofRow 0x18#8 .CLC .implied rfl rfl rfl rfl rfl rfl
theorem Opcode.oraAbsY (addr : Addr) : Opcode.Statement (.oraAbsY addr) :=
  Opcode.ofRow 0x19#8 .ORA .absoluteY rfl rfl rfl rfl rfl rfl
theorem Opcode.nop1A : Opcode.Statement .nop1A :=
  Opcode.ofRow 0x1A#8 .NOP .implied rfl rfl rfl rfl rfl rfl
theorem Opcode.sloAbsY (addr : Addr) : Opcode.Statement (.sloAbsY addr) :=
  Opcode.ofRow 0x1B#8 .SLO .absoluteY rfl rfl rfl rfl rfl rfl
theorem Opcode.nopAbsX1C (addr : Addr) : Opcode.Statement (.nopAbsX1C addr) :=
  Opcode.ofRow 0x1C#8 .NOP .absoluteX rfl rfl rfl rfl rfl rfl
theorem Opcode.oraAbsX (addr : Addr) : Opcode.Statement (.oraAbsX addr) :=
  Opcode.ofRow 0x1D#8 .ORA .absoluteX rfl rfl rfl rfl rfl rfl
theorem Opcode.aslAbsX (addr : Addr) : Opcode.Statement (.aslAbsX addr) :=
  Opcode.ofRow 0x1E#8 .ASL .absoluteX rfl rfl rfl rfl rfl rfl
theorem Opcode.sloAbsX (addr : Addr) : Opcode.Statement (.sloAbsX addr) :=
  Opcode.ofRow 0x1F#8 .SLO .absoluteX rfl rfl rfl rfl rfl rfl
theorem Opcode.jsr (addr : Addr) : Opcode.Statement (.jsr addr) :=
  Opcode.ofRow 0x20#8 .JSR .absolute rfl rfl rfl rfl rfl rfl
theorem Opcode.andIndX (zp : Byte) : Opcode.Statement (.andIndX zp) :=
  Opcode.ofRow 0x21#8 .AND .indirectX rfl rfl rfl rfl rfl rfl
theorem Opcode.jam22 : Opcode.Statement .jam22 :=
  Opcode.ofRow 0x22#8 .JAM .implied rfl rfl rfl rfl rfl rfl
theorem Opcode.rlaIndX (zp : Byte) : Opcode.Statement (.rlaIndX zp) :=
  Opcode.ofRow 0x23#8 .RLA .indirectX rfl rfl rfl rfl rfl rfl
theorem Opcode.bitZp (zp : Byte) : Opcode.Statement (.bitZp zp) :=
  Opcode.ofRow 0x24#8 .BIT .zeropage rfl rfl rfl rfl rfl rfl
theorem Opcode.andZp (zp : Byte) : Opcode.Statement (.andZp zp) :=
  Opcode.ofRow 0x25#8 .AND .zeropage rfl rfl rfl rfl rfl rfl
theorem Opcode.rolZp (zp : Byte) : Opcode.Statement (.rolZp zp) :=
  Opcode.ofRow 0x26#8 .ROL .zeropage rfl rfl rfl rfl rfl rfl
theorem Opcode.rlaZp (zp : Byte) : Opcode.Statement (.rlaZp zp) :=
  Opcode.ofRow 0x27#8 .RLA .zeropage rfl rfl rfl rfl rfl rfl
theorem Opcode.plp : Opcode.Statement .plp :=
  Opcode.ofRow 0x28#8 .PLP .implied rfl rfl rfl rfl rfl rfl
theorem Opcode.andImm (v : Byte) : Opcode.Statement (.andImm v) :=
  Opcode.ofRow 0x29#8 .AND .immediate rfl rfl rfl rfl rfl rfl
theorem Opcode.rolAcc : Opcode.Statement .rolAcc :=
  Opcode.ofRow 0x2A#8 .ROL .accumulator rfl rfl rfl rfl rfl rfl
theorem Opcode.ancImm2B (v : Byte) : Opcode.Statement (.ancImm2B v) :=
  Opcode.ofRow 0x2B#8 .ANC .immediate rfl rfl rfl rfl rfl rfl
theorem Opcode.bitAbs (addr : Addr) : Opcode.Statement (.bitAbs addr) :=
  Opcode.ofRow 0x2C#8 .BIT .absolute rfl rfl rfl rfl rfl rfl
theorem Opcode.andAbs (addr : Addr) : Opcode.Statement (.andAbs addr) :=
  Opcode.ofRow 0x2D#8 .AND .absolute rfl rfl rfl rfl rfl rfl
theorem Opcode.rolAbs (addr : Addr) : Opcode.Statement (.rolAbs addr) :=
  Opcode.ofRow 0x2E#8 .ROL .absolute rfl rfl rfl rfl rfl rfl
theorem Opcode.rlaAbs (addr : Addr) : Opcode.Statement (.rlaAbs addr) :=
  Opcode.ofRow 0x2F#8 .RLA .absolute rfl rfl rfl rfl rfl rfl
theorem Opcode.bmi (disp : Int) : Opcode.Statement (.bmi disp) :=
  Opcode.ofRow 0x30#8 .BMI .relative rfl rfl rfl rfl rfl rfl
theorem Opcode.andIndY (zp : Byte) : Opcode.Statement (.andIndY zp) :=
  Opcode.ofRow 0x31#8 .AND .indirectY rfl rfl rfl rfl rfl rfl
theorem Opcode.jam32 : Opcode.Statement .jam32 :=
  Opcode.ofRow 0x32#8 .JAM .implied rfl rfl rfl rfl rfl rfl
theorem Opcode.rlaIndY (zp : Byte) : Opcode.Statement (.rlaIndY zp) :=
  Opcode.ofRow 0x33#8 .RLA .indirectY rfl rfl rfl rfl rfl rfl
theorem Opcode.nopZpX34 (zp : Byte) : Opcode.Statement (.nopZpX34 zp) :=
  Opcode.ofRow 0x34#8 .NOP .zeropageX rfl rfl rfl rfl rfl rfl
theorem Opcode.andZpX (zp : Byte) : Opcode.Statement (.andZpX zp) :=
  Opcode.ofRow 0x35#8 .AND .zeropageX rfl rfl rfl rfl rfl rfl
theorem Opcode.rolZpX (zp : Byte) : Opcode.Statement (.rolZpX zp) :=
  Opcode.ofRow 0x36#8 .ROL .zeropageX rfl rfl rfl rfl rfl rfl
theorem Opcode.rlaZpX (zp : Byte) : Opcode.Statement (.rlaZpX zp) :=
  Opcode.ofRow 0x37#8 .RLA .zeropageX rfl rfl rfl rfl rfl rfl
theorem Opcode.sec : Opcode.Statement .sec :=
  Opcode.ofRow 0x38#8 .SEC .implied rfl rfl rfl rfl rfl rfl
theorem Opcode.andAbsY (addr : Addr) : Opcode.Statement (.andAbsY addr) :=
  Opcode.ofRow 0x39#8 .AND .absoluteY rfl rfl rfl rfl rfl rfl
theorem Opcode.nop3A : Opcode.Statement .nop3A :=
  Opcode.ofRow 0x3A#8 .NOP .implied rfl rfl rfl rfl rfl rfl
theorem Opcode.rlaAbsY (addr : Addr) : Opcode.Statement (.rlaAbsY addr) :=
  Opcode.ofRow 0x3B#8 .RLA .absoluteY rfl rfl rfl rfl rfl rfl
theorem Opcode.nopAbsX3C (addr : Addr) : Opcode.Statement (.nopAbsX3C addr) :=
  Opcode.ofRow 0x3C#8 .NOP .absoluteX rfl rfl rfl rfl rfl rfl
theorem Opcode.andAbsX (addr : Addr) : Opcode.Statement (.andAbsX addr) :=
  Opcode.ofRow 0x3D#8 .AND .absoluteX rfl rfl rfl rfl rfl rfl
theorem Opcode.rolAbsX (addr : Addr) : Opcode.Statement (.rolAbsX addr) :=
  Opcode.ofRow 0x3E#8 .ROL .absoluteX rfl rfl rfl rfl rfl rfl
theorem Opcode.rlaAbsX (addr : Addr) : Opcode.Statement (.rlaAbsX addr) :=
  Opcode.ofRow 0x3F#8 .RLA .absoluteX rfl rfl rfl rfl rfl rfl
theorem Opcode.rti : Opcode.Statement .rti :=
  Opcode.ofRow 0x40#8 .RTI .implied rfl rfl rfl rfl rfl rfl
theorem Opcode.eorIndX (zp : Byte) : Opcode.Statement (.eorIndX zp) :=
  Opcode.ofRow 0x41#8 .EOR .indirectX rfl rfl rfl rfl rfl rfl
theorem Opcode.jam42 : Opcode.Statement .jam42 :=
  Opcode.ofRow 0x42#8 .JAM .implied rfl rfl rfl rfl rfl rfl
theorem Opcode.sreIndX (zp : Byte) : Opcode.Statement (.sreIndX zp) :=
  Opcode.ofRow 0x43#8 .SRE .indirectX rfl rfl rfl rfl rfl rfl
theorem Opcode.nopZp44 (zp : Byte) : Opcode.Statement (.nopZp44 zp) :=
  Opcode.ofRow 0x44#8 .NOP .zeropage rfl rfl rfl rfl rfl rfl
theorem Opcode.eorZp (zp : Byte) : Opcode.Statement (.eorZp zp) :=
  Opcode.ofRow 0x45#8 .EOR .zeropage rfl rfl rfl rfl rfl rfl
theorem Opcode.lsrZp (zp : Byte) : Opcode.Statement (.lsrZp zp) :=
  Opcode.ofRow 0x46#8 .LSR .zeropage rfl rfl rfl rfl rfl rfl
theorem Opcode.sreZp (zp : Byte) : Opcode.Statement (.sreZp zp) :=
  Opcode.ofRow 0x47#8 .SRE .zeropage rfl rfl rfl rfl rfl rfl
theorem Opcode.pha : Opcode.Statement .pha :=
  Opcode.ofRow 0x48#8 .PHA .implied rfl rfl rfl rfl rfl rfl
theorem Opcode.eorImm (v : Byte) : Opcode.Statement (.eorImm v) :=
  Opcode.ofRow 0x49#8 .EOR .immediate rfl rfl rfl rfl rfl rfl
theorem Opcode.lsrAcc : Opcode.Statement .lsrAcc :=
  Opcode.ofRow 0x4A#8 .LSR .accumulator rfl rfl rfl rfl rfl rfl
theorem Opcode.alrImm (v : Byte) : Opcode.Statement (.alrImm v) :=
  Opcode.ofRow 0x4B#8 .ALR .immediate rfl rfl rfl rfl rfl rfl
theorem Opcode.jmpAbs (addr : Addr) : Opcode.Statement (.jmpAbs addr) :=
  Opcode.ofRow 0x4C#8 .JMP .absolute rfl rfl rfl rfl rfl rfl
theorem Opcode.eorAbs (addr : Addr) : Opcode.Statement (.eorAbs addr) :=
  Opcode.ofRow 0x4D#8 .EOR .absolute rfl rfl rfl rfl rfl rfl
theorem Opcode.lsrAbs (addr : Addr) : Opcode.Statement (.lsrAbs addr) :=
  Opcode.ofRow 0x4E#8 .LSR .absolute rfl rfl rfl rfl rfl rfl
theorem Opcode.sreAbs (addr : Addr) : Opcode.Statement (.sreAbs addr) :=
  Opcode.ofRow 0x4F#8 .SRE .absolute rfl rfl rfl rfl rfl rfl
theorem Opcode.bvc (disp : Int) : Opcode.Statement (.bvc disp) :=
  Opcode.ofRow 0x50#8 .BVC .relative rfl rfl rfl rfl rfl rfl
theorem Opcode.eorIndY (zp : Byte) : Opcode.Statement (.eorIndY zp) :=
  Opcode.ofRow 0x51#8 .EOR .indirectY rfl rfl rfl rfl rfl rfl
theorem Opcode.jam52 : Opcode.Statement .jam52 :=
  Opcode.ofRow 0x52#8 .JAM .implied rfl rfl rfl rfl rfl rfl
theorem Opcode.sreIndY (zp : Byte) : Opcode.Statement (.sreIndY zp) :=
  Opcode.ofRow 0x53#8 .SRE .indirectY rfl rfl rfl rfl rfl rfl
theorem Opcode.nopZpX54 (zp : Byte) : Opcode.Statement (.nopZpX54 zp) :=
  Opcode.ofRow 0x54#8 .NOP .zeropageX rfl rfl rfl rfl rfl rfl
theorem Opcode.eorZpX (zp : Byte) : Opcode.Statement (.eorZpX zp) :=
  Opcode.ofRow 0x55#8 .EOR .zeropageX rfl rfl rfl rfl rfl rfl
theorem Opcode.lsrZpX (zp : Byte) : Opcode.Statement (.lsrZpX zp) :=
  Opcode.ofRow 0x56#8 .LSR .zeropageX rfl rfl rfl rfl rfl rfl
theorem Opcode.sreZpX (zp : Byte) : Opcode.Statement (.sreZpX zp) :=
  Opcode.ofRow 0x57#8 .SRE .zeropageX rfl rfl rfl rfl rfl rfl
theorem Opcode.cli : Opcode.Statement .cli :=
  Opcode.ofRow 0x58#8 .CLI .implied rfl rfl rfl rfl rfl rfl
theorem Opcode.eorAbsY (addr : Addr) : Opcode.Statement (.eorAbsY addr) :=
  Opcode.ofRow 0x59#8 .EOR .absoluteY rfl rfl rfl rfl rfl rfl
theorem Opcode.nop5A : Opcode.Statement .nop5A :=
  Opcode.ofRow 0x5A#8 .NOP .implied rfl rfl rfl rfl rfl rfl
theorem Opcode.sreAbsY (addr : Addr) : Opcode.Statement (.sreAbsY addr) :=
  Opcode.ofRow 0x5B#8 .SRE .absoluteY rfl rfl rfl rfl rfl rfl
theorem Opcode.nopAbsX5C (addr : Addr) : Opcode.Statement (.nopAbsX5C addr) :=
  Opcode.ofRow 0x5C#8 .NOP .absoluteX rfl rfl rfl rfl rfl rfl
theorem Opcode.eorAbsX (addr : Addr) : Opcode.Statement (.eorAbsX addr) :=
  Opcode.ofRow 0x5D#8 .EOR .absoluteX rfl rfl rfl rfl rfl rfl
theorem Opcode.lsrAbsX (addr : Addr) : Opcode.Statement (.lsrAbsX addr) :=
  Opcode.ofRow 0x5E#8 .LSR .absoluteX rfl rfl rfl rfl rfl rfl
theorem Opcode.sreAbsX (addr : Addr) : Opcode.Statement (.sreAbsX addr) :=
  Opcode.ofRow 0x5F#8 .SRE .absoluteX rfl rfl rfl rfl rfl rfl
theorem Opcode.rts : Opcode.Statement .rts :=
  Opcode.ofRow 0x60#8 .RTS .implied rfl rfl rfl rfl rfl rfl
theorem Opcode.adcIndX (zp : Byte) : Opcode.Statement (.adcIndX zp) :=
  Opcode.ofRow 0x61#8 .ADC .indirectX rfl rfl rfl rfl rfl rfl
theorem Opcode.jam62 : Opcode.Statement .jam62 :=
  Opcode.ofRow 0x62#8 .JAM .implied rfl rfl rfl rfl rfl rfl
theorem Opcode.rraIndX (zp : Byte) : Opcode.Statement (.rraIndX zp) :=
  Opcode.ofRow 0x63#8 .RRA .indirectX rfl rfl rfl rfl rfl rfl
theorem Opcode.nopZp64 (zp : Byte) : Opcode.Statement (.nopZp64 zp) :=
  Opcode.ofRow 0x64#8 .NOP .zeropage rfl rfl rfl rfl rfl rfl
theorem Opcode.adcZp (zp : Byte) : Opcode.Statement (.adcZp zp) :=
  Opcode.ofRow 0x65#8 .ADC .zeropage rfl rfl rfl rfl rfl rfl
theorem Opcode.rorZp (zp : Byte) : Opcode.Statement (.rorZp zp) :=
  Opcode.ofRow 0x66#8 .ROR .zeropage rfl rfl rfl rfl rfl rfl
theorem Opcode.rraZp (zp : Byte) : Opcode.Statement (.rraZp zp) :=
  Opcode.ofRow 0x67#8 .RRA .zeropage rfl rfl rfl rfl rfl rfl
theorem Opcode.pla : Opcode.Statement .pla :=
  Opcode.ofRow 0x68#8 .PLA .implied rfl rfl rfl rfl rfl rfl
theorem Opcode.adcImm (v : Byte) : Opcode.Statement (.adcImm v) :=
  Opcode.ofRow 0x69#8 .ADC .immediate rfl rfl rfl rfl rfl rfl
theorem Opcode.rorAcc : Opcode.Statement .rorAcc :=
  Opcode.ofRow 0x6A#8 .ROR .accumulator rfl rfl rfl rfl rfl rfl
theorem Opcode.arrImm (v : Byte) : Opcode.Statement (.arrImm v) :=
  Opcode.ofRow 0x6B#8 .ARR .immediate rfl rfl rfl rfl rfl rfl
theorem Opcode.jmpInd (ptr : Addr) : Opcode.Statement (.jmpInd ptr) :=
  Opcode.ofRow 0x6C#8 .JMP .indirect rfl rfl rfl rfl rfl rfl
theorem Opcode.adcAbs (addr : Addr) : Opcode.Statement (.adcAbs addr) :=
  Opcode.ofRow 0x6D#8 .ADC .absolute rfl rfl rfl rfl rfl rfl
theorem Opcode.rorAbs (addr : Addr) : Opcode.Statement (.rorAbs addr) :=
  Opcode.ofRow 0x6E#8 .ROR .absolute rfl rfl rfl rfl rfl rfl
theorem Opcode.rraAbs (addr : Addr) : Opcode.Statement (.rraAbs addr) :=
  Opcode.ofRow 0x6F#8 .RRA .absolute rfl rfl rfl rfl rfl rfl
theorem Opcode.bvs (disp : Int) : Opcode.Statement (.bvs disp) :=
  Opcode.ofRow 0x70#8 .BVS .relative rfl rfl rfl rfl rfl rfl
theorem Opcode.adcIndY (zp : Byte) : Opcode.Statement (.adcIndY zp) :=
  Opcode.ofRow 0x71#8 .ADC .indirectY rfl rfl rfl rfl rfl rfl
theorem Opcode.jam72 : Opcode.Statement .jam72 :=
  Opcode.ofRow 0x72#8 .JAM .implied rfl rfl rfl rfl rfl rfl
theorem Opcode.rraIndY (zp : Byte) : Opcode.Statement (.rraIndY zp) :=
  Opcode.ofRow 0x73#8 .RRA .indirectY rfl rfl rfl rfl rfl rfl
theorem Opcode.nopZpX74 (zp : Byte) : Opcode.Statement (.nopZpX74 zp) :=
  Opcode.ofRow 0x74#8 .NOP .zeropageX rfl rfl rfl rfl rfl rfl
theorem Opcode.adcZpX (zp : Byte) : Opcode.Statement (.adcZpX zp) :=
  Opcode.ofRow 0x75#8 .ADC .zeropageX rfl rfl rfl rfl rfl rfl
theorem Opcode.rorZpX (zp : Byte) : Opcode.Statement (.rorZpX zp) :=
  Opcode.ofRow 0x76#8 .ROR .zeropageX rfl rfl rfl rfl rfl rfl
theorem Opcode.rraZpX (zp : Byte) : Opcode.Statement (.rraZpX zp) :=
  Opcode.ofRow 0x77#8 .RRA .zeropageX rfl rfl rfl rfl rfl rfl
theorem Opcode.sei : Opcode.Statement .sei :=
  Opcode.ofRow 0x78#8 .SEI .implied rfl rfl rfl rfl rfl rfl
theorem Opcode.adcAbsY (addr : Addr) : Opcode.Statement (.adcAbsY addr) :=
  Opcode.ofRow 0x79#8 .ADC .absoluteY rfl rfl rfl rfl rfl rfl
theorem Opcode.nop7A : Opcode.Statement .nop7A :=
  Opcode.ofRow 0x7A#8 .NOP .implied rfl rfl rfl rfl rfl rfl
theorem Opcode.rraAbsY (addr : Addr) : Opcode.Statement (.rraAbsY addr) :=
  Opcode.ofRow 0x7B#8 .RRA .absoluteY rfl rfl rfl rfl rfl rfl
theorem Opcode.nopAbsX7C (addr : Addr) : Opcode.Statement (.nopAbsX7C addr) :=
  Opcode.ofRow 0x7C#8 .NOP .absoluteX rfl rfl rfl rfl rfl rfl
theorem Opcode.adcAbsX (addr : Addr) : Opcode.Statement (.adcAbsX addr) :=
  Opcode.ofRow 0x7D#8 .ADC .absoluteX rfl rfl rfl rfl rfl rfl
theorem Opcode.rorAbsX (addr : Addr) : Opcode.Statement (.rorAbsX addr) :=
  Opcode.ofRow 0x7E#8 .ROR .absoluteX rfl rfl rfl rfl rfl rfl
theorem Opcode.rraAbsX (addr : Addr) : Opcode.Statement (.rraAbsX addr) :=
  Opcode.ofRow 0x7F#8 .RRA .absoluteX rfl rfl rfl rfl rfl rfl
theorem Opcode.nopImm80 (v : Byte) : Opcode.Statement (.nopImm80 v) :=
  Opcode.ofRow 0x80#8 .NOP .immediate rfl rfl rfl rfl rfl rfl
theorem Opcode.staIndX (zp : Byte) : Opcode.Statement (.staIndX zp) :=
  Opcode.ofRow 0x81#8 .STA .indirectX rfl rfl rfl rfl rfl rfl
theorem Opcode.nopImm82 (v : Byte) : Opcode.Statement (.nopImm82 v) :=
  Opcode.ofRow 0x82#8 .NOP .immediate rfl rfl rfl rfl rfl rfl
theorem Opcode.saxIndX (zp : Byte) : Opcode.Statement (.saxIndX zp) :=
  Opcode.ofRow 0x83#8 .SAX .indirectX rfl rfl rfl rfl rfl rfl
theorem Opcode.styZp (zp : Byte) : Opcode.Statement (.styZp zp) :=
  Opcode.ofRow 0x84#8 .STY .zeropage rfl rfl rfl rfl rfl rfl
theorem Opcode.staZp (zp : Byte) : Opcode.Statement (.staZp zp) :=
  Opcode.ofRow 0x85#8 .STA .zeropage rfl rfl rfl rfl rfl rfl
theorem Opcode.stxZp (zp : Byte) : Opcode.Statement (.stxZp zp) :=
  Opcode.ofRow 0x86#8 .STX .zeropage rfl rfl rfl rfl rfl rfl
theorem Opcode.saxZp (zp : Byte) : Opcode.Statement (.saxZp zp) :=
  Opcode.ofRow 0x87#8 .SAX .zeropage rfl rfl rfl rfl rfl rfl
theorem Opcode.dey : Opcode.Statement .dey :=
  Opcode.ofRow 0x88#8 .DEY .implied rfl rfl rfl rfl rfl rfl
theorem Opcode.nopImm89 (v : Byte) : Opcode.Statement (.nopImm89 v) :=
  Opcode.ofRow 0x89#8 .NOP .immediate rfl rfl rfl rfl rfl rfl
theorem Opcode.txa : Opcode.Statement .txa :=
  Opcode.ofRow 0x8A#8 .TXA .implied rfl rfl rfl rfl rfl rfl
theorem Opcode.aneImm (v : Byte) : Opcode.Statement (.aneImm v) :=
  Opcode.ofRow 0x8B#8 .ANE .immediate rfl rfl rfl rfl rfl rfl
theorem Opcode.styAbs (addr : Addr) : Opcode.Statement (.styAbs addr) :=
  Opcode.ofRow 0x8C#8 .STY .absolute rfl rfl rfl rfl rfl rfl
theorem Opcode.staAbs (addr : Addr) : Opcode.Statement (.staAbs addr) :=
  Opcode.ofRow 0x8D#8 .STA .absolute rfl rfl rfl rfl rfl rfl
theorem Opcode.stxAbs (addr : Addr) : Opcode.Statement (.stxAbs addr) :=
  Opcode.ofRow 0x8E#8 .STX .absolute rfl rfl rfl rfl rfl rfl
theorem Opcode.saxAbs (addr : Addr) : Opcode.Statement (.saxAbs addr) :=
  Opcode.ofRow 0x8F#8 .SAX .absolute rfl rfl rfl rfl rfl rfl
theorem Opcode.bcc (disp : Int) : Opcode.Statement (.bcc disp) :=
  Opcode.ofRow 0x90#8 .BCC .relative rfl rfl rfl rfl rfl rfl
theorem Opcode.staIndY (zp : Byte) : Opcode.Statement (.staIndY zp) :=
  Opcode.ofRow 0x91#8 .STA .indirectY rfl rfl rfl rfl rfl rfl
theorem Opcode.jam92 : Opcode.Statement .jam92 :=
  Opcode.ofRow 0x92#8 .JAM .implied rfl rfl rfl rfl rfl rfl
theorem Opcode.shaIndY (zp : Byte) : Opcode.Statement (.shaIndY zp) :=
  Opcode.ofRow 0x93#8 .SHA .indirectY rfl rfl rfl rfl rfl rfl
theorem Opcode.styZpX (zp : Byte) : Opcode.Statement (.styZpX zp) :=
  Opcode.ofRow 0x94#8 .STY .zeropageX rfl rfl rfl rfl rfl rfl
theorem Opcode.staZpX (zp : Byte) : Opcode.Statement (.staZpX zp) :=
  Opcode.ofRow 0x95#8 .STA .zeropageX rfl rfl rfl rfl rfl rfl
theorem Opcode.stxZpY (zp : Byte) : Opcode.Statement (.stxZpY zp) :=
  Opcode.ofRow 0x96#8 .STX .zeropageY rfl rfl rfl rfl rfl rfl
theorem Opcode.saxZpY (zp : Byte) : Opcode.Statement (.saxZpY zp) :=
  Opcode.ofRow 0x97#8 .SAX .zeropageY rfl rfl rfl rfl rfl rfl
theorem Opcode.tya : Opcode.Statement .tya :=
  Opcode.ofRow 0x98#8 .TYA .implied rfl rfl rfl rfl rfl rfl
theorem Opcode.staAbsY (addr : Addr) : Opcode.Statement (.staAbsY addr) :=
  Opcode.ofRow 0x99#8 .STA .absoluteY rfl rfl rfl rfl rfl rfl
theorem Opcode.txs : Opcode.Statement .txs :=
  Opcode.ofRow 0x9A#8 .TXS .implied rfl rfl rfl rfl rfl rfl
theorem Opcode.tasAbsY (addr : Addr) : Opcode.Statement (.tasAbsY addr) :=
  Opcode.ofRow 0x9B#8 .TAS .absoluteY rfl rfl rfl rfl rfl rfl
theorem Opcode.shyAbsX (addr : Addr) : Opcode.Statement (.shyAbsX addr) :=
  Opcode.ofRow 0x9C#8 .SHY .absoluteX rfl rfl rfl rfl rfl rfl
theorem Opcode.staAbsX (addr : Addr) : Opcode.Statement (.staAbsX addr) :=
  Opcode.ofRow 0x9D#8 .STA .absoluteX rfl rfl rfl rfl rfl rfl
theorem Opcode.shxAbsY (addr : Addr) : Opcode.Statement (.shxAbsY addr) :=
  Opcode.ofRow 0x9E#8 .SHX .absoluteY rfl rfl rfl rfl rfl rfl
theorem Opcode.shaAbsY (addr : Addr) : Opcode.Statement (.shaAbsY addr) :=
  Opcode.ofRow 0x9F#8 .SHA .absoluteY rfl rfl rfl rfl rfl rfl
theorem Opcode.ldyImm (v : Byte) : Opcode.Statement (.ldyImm v) :=
  Opcode.ofRow 0xA0#8 .LDY .immediate rfl rfl rfl rfl rfl rfl
theorem Opcode.ldaIndX (zp : Byte) : Opcode.Statement (.ldaIndX zp) :=
  Opcode.ofRow 0xA1#8 .LDA .indirectX rfl rfl rfl rfl rfl rfl
theorem Opcode.ldxImm (v : Byte) : Opcode.Statement (.ldxImm v) :=
  Opcode.ofRow 0xA2#8 .LDX .immediate rfl rfl rfl rfl rfl rfl
theorem Opcode.laxIndX (zp : Byte) : Opcode.Statement (.laxIndX zp) :=
  Opcode.ofRow 0xA3#8 .LAX .indirectX rfl rfl rfl rfl rfl rfl
theorem Opcode.ldyZp (zp : Byte) : Opcode.Statement (.ldyZp zp) :=
  Opcode.ofRow 0xA4#8 .LDY .zeropage rfl rfl rfl rfl rfl rfl
theorem Opcode.ldaZp (zp : Byte) : Opcode.Statement (.ldaZp zp) :=
  Opcode.ofRow 0xA5#8 .LDA .zeropage rfl rfl rfl rfl rfl rfl
theorem Opcode.ldxZp (zp : Byte) : Opcode.Statement (.ldxZp zp) :=
  Opcode.ofRow 0xA6#8 .LDX .zeropage rfl rfl rfl rfl rfl rfl
theorem Opcode.laxZp (zp : Byte) : Opcode.Statement (.laxZp zp) :=
  Opcode.ofRow 0xA7#8 .LAX .zeropage rfl rfl rfl rfl rfl rfl
theorem Opcode.tay : Opcode.Statement .tay :=
  Opcode.ofRow 0xA8#8 .TAY .implied rfl rfl rfl rfl rfl rfl
theorem Opcode.ldaImm (v : Byte) : Opcode.Statement (.ldaImm v) :=
  Opcode.ofRow 0xA9#8 .LDA .immediate rfl rfl rfl rfl rfl rfl
theorem Opcode.tax : Opcode.Statement .tax :=
  Opcode.ofRow 0xAA#8 .TAX .implied rfl rfl rfl rfl rfl rfl
theorem Opcode.lxaImm (v : Byte) : Opcode.Statement (.lxaImm v) :=
  Opcode.ofRow 0xAB#8 .LXA .immediate rfl rfl rfl rfl rfl rfl
theorem Opcode.ldyAbs (addr : Addr) : Opcode.Statement (.ldyAbs addr) :=
  Opcode.ofRow 0xAC#8 .LDY .absolute rfl rfl rfl rfl rfl rfl
theorem Opcode.ldaAbs (addr : Addr) : Opcode.Statement (.ldaAbs addr) :=
  Opcode.ofRow 0xAD#8 .LDA .absolute rfl rfl rfl rfl rfl rfl
theorem Opcode.ldxAbs (addr : Addr) : Opcode.Statement (.ldxAbs addr) :=
  Opcode.ofRow 0xAE#8 .LDX .absolute rfl rfl rfl rfl rfl rfl
theorem Opcode.laxAbs (addr : Addr) : Opcode.Statement (.laxAbs addr) :=
  Opcode.ofRow 0xAF#8 .LAX .absolute rfl rfl rfl rfl rfl rfl
theorem Opcode.bcs (disp : Int) : Opcode.Statement (.bcs disp) :=
  Opcode.ofRow 0xB0#8 .BCS .relative rfl rfl rfl rfl rfl rfl
theorem Opcode.ldaIndY (zp : Byte) : Opcode.Statement (.ldaIndY zp) :=
  Opcode.ofRow 0xB1#8 .LDA .indirectY rfl rfl rfl rfl rfl rfl
theorem Opcode.jamB2 : Opcode.Statement .jamB2 :=
  Opcode.ofRow 0xB2#8 .JAM .implied rfl rfl rfl rfl rfl rfl
theorem Opcode.laxIndY (zp : Byte) : Opcode.Statement (.laxIndY zp) :=
  Opcode.ofRow 0xB3#8 .LAX .indirectY rfl rfl rfl rfl rfl rfl
theorem Opcode.ldyZpX (zp : Byte) : Opcode.Statement (.ldyZpX zp) :=
  Opcode.ofRow 0xB4#8 .LDY .zeropageX rfl rfl rfl rfl rfl rfl
theorem Opcode.ldaZpX (zp : Byte) : Opcode.Statement (.ldaZpX zp) :=
  Opcode.ofRow 0xB5#8 .LDA .zeropageX rfl rfl rfl rfl rfl rfl
theorem Opcode.ldxZpY (zp : Byte) : Opcode.Statement (.ldxZpY zp) :=
  Opcode.ofRow 0xB6#8 .LDX .zeropageY rfl rfl rfl rfl rfl rfl
theorem Opcode.laxZpY (zp : Byte) : Opcode.Statement (.laxZpY zp) :=
  Opcode.ofRow 0xB7#8 .LAX .zeropageY rfl rfl rfl rfl rfl rfl
theorem Opcode.clv : Opcode.Statement .clv :=
  Opcode.ofRow 0xB8#8 .CLV .implied rfl rfl rfl rfl rfl rfl
theorem Opcode.ldaAbsY (addr : Addr) : Opcode.Statement (.ldaAbsY addr) :=
  Opcode.ofRow 0xB9#8 .LDA .absoluteY rfl rfl rfl rfl rfl rfl
theorem Opcode.tsx : Opcode.Statement .tsx :=
  Opcode.ofRow 0xBA#8 .TSX .implied rfl rfl rfl rfl rfl rfl
theorem Opcode.lasAbsY (addr : Addr) : Opcode.Statement (.lasAbsY addr) :=
  Opcode.ofRow 0xBB#8 .LAS .absoluteY rfl rfl rfl rfl rfl rfl
theorem Opcode.ldyAbsX (addr : Addr) : Opcode.Statement (.ldyAbsX addr) :=
  Opcode.ofRow 0xBC#8 .LDY .absoluteX rfl rfl rfl rfl rfl rfl
theorem Opcode.ldaAbsX (addr : Addr) : Opcode.Statement (.ldaAbsX addr) :=
  Opcode.ofRow 0xBD#8 .LDA .absoluteX rfl rfl rfl rfl rfl rfl
theorem Opcode.ldxAbsY (addr : Addr) : Opcode.Statement (.ldxAbsY addr) :=
  Opcode.ofRow 0xBE#8 .LDX .absoluteY rfl rfl rfl rfl rfl rfl
theorem Opcode.laxAbsY (addr : Addr) : Opcode.Statement (.laxAbsY addr) :=
  Opcode.ofRow 0xBF#8 .LAX .absoluteY rfl rfl rfl rfl rfl rfl
theorem Opcode.cpyImm (v : Byte) : Opcode.Statement (.cpyImm v) :=
  Opcode.ofRow 0xC0#8 .CPY .immediate rfl rfl rfl rfl rfl rfl
theorem Opcode.cmpIndX (zp : Byte) : Opcode.Statement (.cmpIndX zp) :=
  Opcode.ofRow 0xC1#8 .CMP .indirectX rfl rfl rfl rfl rfl rfl
theorem Opcode.nopImmC2 (v : Byte) : Opcode.Statement (.nopImmC2 v) :=
  Opcode.ofRow 0xC2#8 .NOP .immediate rfl rfl rfl rfl rfl rfl
theorem Opcode.dcpIndX (zp : Byte) : Opcode.Statement (.dcpIndX zp) :=
  Opcode.ofRow 0xC3#8 .DCP .indirectX rfl rfl rfl rfl rfl rfl
theorem Opcode.cpyZp (zp : Byte) : Opcode.Statement (.cpyZp zp) :=
  Opcode.ofRow 0xC4#8 .CPY .zeropage rfl rfl rfl rfl rfl rfl
theorem Opcode.cmpZp (zp : Byte) : Opcode.Statement (.cmpZp zp) :=
  Opcode.ofRow 0xC5#8 .CMP .zeropage rfl rfl rfl rfl rfl rfl
theorem Opcode.decZp (zp : Byte) : Opcode.Statement (.decZp zp) :=
  Opcode.ofRow 0xC6#8 .DEC .zeropage rfl rfl rfl rfl rfl rfl
theorem Opcode.dcpZp (zp : Byte) : Opcode.Statement (.dcpZp zp) :=
  Opcode.ofRow 0xC7#8 .DCP .zeropage rfl rfl rfl rfl rfl rfl
theorem Opcode.iny : Opcode.Statement .iny :=
  Opcode.ofRow 0xC8#8 .INY .implied rfl rfl rfl rfl rfl rfl
theorem Opcode.cmpImm (v : Byte) : Opcode.Statement (.cmpImm v) :=
  Opcode.ofRow 0xC9#8 .CMP .immediate rfl rfl rfl rfl rfl rfl
theorem Opcode.dex : Opcode.Statement .dex :=
  Opcode.ofRow 0xCA#8 .DEX .implied rfl rfl rfl rfl rfl rfl
theorem Opcode.sbxImm (v : Byte) : Opcode.Statement (.sbxImm v) :=
  Opcode.ofRow 0xCB#8 .SBX .immediate rfl rfl rfl rfl rfl rfl
theorem Opcode.cpyAbs (addr : Addr) : Opcode.Statement (.cpyAbs addr) :=
  Opcode.ofRow 0xCC#8 .CPY .absolute rfl rfl rfl rfl rfl rfl
theorem Opcode.cmpAbs (addr : Addr) : Opcode.Statement (.cmpAbs addr) :=
  Opcode.ofRow 0xCD#8 .CMP .absolute rfl rfl rfl rfl rfl rfl
theorem Opcode.decAbs (addr : Addr) : Opcode.Statement (.decAbs addr) :=
  Opcode.ofRow 0xCE#8 .DEC .absolute rfl rfl rfl rfl rfl rfl
theorem Opcode.dcpAbs (addr : Addr) : Opcode.Statement (.dcpAbs addr) :=
  Opcode.ofRow 0xCF#8 .DCP .absolute rfl rfl rfl rfl rfl rfl
theorem Opcode.bne (disp : Int) : Opcode.Statement (.bne disp) :=
  Opcode.ofRow 0xD0#8 .BNE .relative rfl rfl rfl rfl rfl rfl
theorem Opcode.cmpIndY (zp : Byte) : Opcode.Statement (.cmpIndY zp) :=
  Opcode.ofRow 0xD1#8 .CMP .indirectY rfl rfl rfl rfl rfl rfl
theorem Opcode.jamD2 : Opcode.Statement .jamD2 :=
  Opcode.ofRow 0xD2#8 .JAM .implied rfl rfl rfl rfl rfl rfl
theorem Opcode.dcpIndY (zp : Byte) : Opcode.Statement (.dcpIndY zp) :=
  Opcode.ofRow 0xD3#8 .DCP .indirectY rfl rfl rfl rfl rfl rfl
theorem Opcode.nopZpXD4 (zp : Byte) : Opcode.Statement (.nopZpXD4 zp) :=
  Opcode.ofRow 0xD4#8 .NOP .zeropageX rfl rfl rfl rfl rfl rfl
theorem Opcode.cmpZpX (zp : Byte) : Opcode.Statement (.cmpZpX zp) :=
  Opcode.ofRow 0xD5#8 .CMP .zeropageX rfl rfl rfl rfl rfl rfl
theorem Opcode.decZpX (zp : Byte) : Opcode.Statement (.decZpX zp) :=
  Opcode.ofRow 0xD6#8 .DEC .zeropageX rfl rfl rfl rfl rfl rfl
theorem Opcode.dcpZpX (zp : Byte) : Opcode.Statement (.dcpZpX zp) :=
  Opcode.ofRow 0xD7#8 .DCP .zeropageX rfl rfl rfl rfl rfl rfl
theorem Opcode.cld : Opcode.Statement .cld :=
  Opcode.ofRow 0xD8#8 .CLD .implied rfl rfl rfl rfl rfl rfl
theorem Opcode.cmpAbsY (addr : Addr) : Opcode.Statement (.cmpAbsY addr) :=
  Opcode.ofRow 0xD9#8 .CMP .absoluteY rfl rfl rfl rfl rfl rfl
theorem Opcode.nopDA : Opcode.Statement .nopDA :=
  Opcode.ofRow 0xDA#8 .NOP .implied rfl rfl rfl rfl rfl rfl
theorem Opcode.dcpAbsY (addr : Addr) : Opcode.Statement (.dcpAbsY addr) :=
  Opcode.ofRow 0xDB#8 .DCP .absoluteY rfl rfl rfl rfl rfl rfl
theorem Opcode.nopAbsXDC (addr : Addr) : Opcode.Statement (.nopAbsXDC addr) :=
  Opcode.ofRow 0xDC#8 .NOP .absoluteX rfl rfl rfl rfl rfl rfl
theorem Opcode.cmpAbsX (addr : Addr) : Opcode.Statement (.cmpAbsX addr) :=
  Opcode.ofRow 0xDD#8 .CMP .absoluteX rfl rfl rfl rfl rfl rfl
theorem Opcode.decAbsX (addr : Addr) : Opcode.Statement (.decAbsX addr) :=
  Opcode.ofRow 0xDE#8 .DEC .absoluteX rfl rfl rfl rfl rfl rfl
theorem Opcode.dcpAbsX (addr : Addr) : Opcode.Statement (.dcpAbsX addr) :=
  Opcode.ofRow 0xDF#8 .DCP .absoluteX rfl rfl rfl rfl rfl rfl
theorem Opcode.cpxImm (v : Byte) : Opcode.Statement (.cpxImm v) :=
  Opcode.ofRow 0xE0#8 .CPX .immediate rfl rfl rfl rfl rfl rfl
theorem Opcode.sbcIndX (zp : Byte) : Opcode.Statement (.sbcIndX zp) :=
  Opcode.ofRow 0xE1#8 .SBC .indirectX rfl rfl rfl rfl rfl rfl
theorem Opcode.nopImmE2 (v : Byte) : Opcode.Statement (.nopImmE2 v) :=
  Opcode.ofRow 0xE2#8 .NOP .immediate rfl rfl rfl rfl rfl rfl
theorem Opcode.iscIndX (zp : Byte) : Opcode.Statement (.iscIndX zp) :=
  Opcode.ofRow 0xE3#8 .ISC .indirectX rfl rfl rfl rfl rfl rfl
theorem Opcode.cpxZp (zp : Byte) : Opcode.Statement (.cpxZp zp) :=
  Opcode.ofRow 0xE4#8 .CPX .zeropage rfl rfl rfl rfl rfl rfl
theorem Opcode.sbcZp (zp : Byte) : Opcode.Statement (.sbcZp zp) :=
  Opcode.ofRow 0xE5#8 .SBC .zeropage rfl rfl rfl rfl rfl rfl
theorem Opcode.incZp (zp : Byte) : Opcode.Statement (.incZp zp) :=
  Opcode.ofRow 0xE6#8 .INC .zeropage rfl rfl rfl rfl rfl rfl
theorem Opcode.iscZp (zp : Byte) : Opcode.Statement (.iscZp zp) :=
  Opcode.ofRow 0xE7#8 .ISC .zeropage rfl rfl rfl rfl rfl rfl
theorem Opcode.inx : Opcode.Statement .inx :=
  Opcode.ofRow 0xE8#8 .INX .implied rfl rfl rfl rfl rfl rfl
theorem Opcode.sbcImm (v : Byte) : Opcode.Statement (.sbcImm v) :=
  Opcode.ofRow 0xE9#8 .SBC .immediate rfl rfl rfl rfl rfl rfl
theorem Opcode.nop : Opcode.Statement .nop :=
  Opcode.ofRow 0xEA#8 .NOP .implied rfl rfl rfl rfl rfl rfl
theorem Opcode.usbcImm (v : Byte) : Opcode.Statement (.usbcImm v) :=
  Opcode.ofRow 0xEB#8 .USBC .immediate rfl rfl rfl rfl rfl rfl
theorem Opcode.cpxAbs (addr : Addr) : Opcode.Statement (.cpxAbs addr) :=
  Opcode.ofRow 0xEC#8 .CPX .absolute rfl rfl rfl rfl rfl rfl
theorem Opcode.sbcAbs (addr : Addr) : Opcode.Statement (.sbcAbs addr) :=
  Opcode.ofRow 0xED#8 .SBC .absolute rfl rfl rfl rfl rfl rfl
theorem Opcode.incAbs (addr : Addr) : Opcode.Statement (.incAbs addr) :=
  Opcode.ofRow 0xEE#8 .INC .absolute rfl rfl rfl rfl rfl rfl
theorem Opcode.iscAbs (addr : Addr) : Opcode.Statement (.iscAbs addr) :=
  Opcode.ofRow 0xEF#8 .ISC .absolute rfl rfl rfl rfl rfl rfl
theorem Opcode.beq (disp : Int) : Opcode.Statement (.beq disp) :=
  Opcode.ofRow 0xF0#8 .BEQ .relative rfl rfl rfl rfl rfl rfl
theorem Opcode.sbcIndY (zp : Byte) : Opcode.Statement (.sbcIndY zp) :=
  Opcode.ofRow 0xF1#8 .SBC .indirectY rfl rfl rfl rfl rfl rfl
theorem Opcode.jamF2 : Opcode.Statement .jamF2 :=
  Opcode.ofRow 0xF2#8 .JAM .implied rfl rfl rfl rfl rfl rfl
theorem Opcode.iscIndY (zp : Byte) : Opcode.Statement (.iscIndY zp) :=
  Opcode.ofRow 0xF3#8 .ISC .indirectY rfl rfl rfl rfl rfl rfl
theorem Opcode.nopZpXF4 (zp : Byte) : Opcode.Statement (.nopZpXF4 zp) :=
  Opcode.ofRow 0xF4#8 .NOP .zeropageX rfl rfl rfl rfl rfl rfl
theorem Opcode.sbcZpX (zp : Byte) : Opcode.Statement (.sbcZpX zp) :=
  Opcode.ofRow 0xF5#8 .SBC .zeropageX rfl rfl rfl rfl rfl rfl
theorem Opcode.incZpX (zp : Byte) : Opcode.Statement (.incZpX zp) :=
  Opcode.ofRow 0xF6#8 .INC .zeropageX rfl rfl rfl rfl rfl rfl
theorem Opcode.iscZpX (zp : Byte) : Opcode.Statement (.iscZpX zp) :=
  Opcode.ofRow 0xF7#8 .ISC .zeropageX rfl rfl rfl rfl rfl rfl
theorem Opcode.sed : Opcode.Statement .sed :=
  Opcode.ofRow 0xF8#8 .SED .implied rfl rfl rfl rfl rfl rfl
theorem Opcode.sbcAbsY (addr : Addr) : Opcode.Statement (.sbcAbsY addr) :=
  Opcode.ofRow 0xF9#8 .SBC .absoluteY rfl rfl rfl rfl rfl rfl
theorem Opcode.nopFA : Opcode.Statement .nopFA :=
  Opcode.ofRow 0xFA#8 .NOP .implied rfl rfl rfl rfl rfl rfl
theorem Opcode.iscAbsY (addr : Addr) : Opcode.Statement (.iscAbsY addr) :=
  Opcode.ofRow 0xFB#8 .ISC .absoluteY rfl rfl rfl rfl rfl rfl
theorem Opcode.nopAbsXFC (addr : Addr) : Opcode.Statement (.nopAbsXFC addr) :=
  Opcode.ofRow 0xFC#8 .NOP .absoluteX rfl rfl rfl rfl rfl rfl
theorem Opcode.sbcAbsX (addr : Addr) : Opcode.Statement (.sbcAbsX addr) :=
  Opcode.ofRow 0xFD#8 .SBC .absoluteX rfl rfl rfl rfl rfl rfl
theorem Opcode.incAbsX (addr : Addr) : Opcode.Statement (.incAbsX addr) :=
  Opcode.ofRow 0xFE#8 .INC .absoluteX rfl rfl rfl rfl rfl rfl
theorem Opcode.iscAbsX (addr : Addr) : Opcode.Statement (.iscAbsX addr) :=
  Opcode.ofRow 0xFF#8 .ISC .absoluteX rfl rfl rfl rfl rfl rfl

end Sys2Proof.Laws
end

