-- ==== Sys2Proof/Laws/Recorder.lean ====
section
/-! SUPPORT. The recording bus: each shared operation over it is the operation on the default bus, and writes down
the accesses that the lists of Machine/Accesses name for it. -/

namespace Sys2Proof.Machine

/-- The state with more accesses written down. -/
def State.noted (s : State) (accesses : List Access) : State :=
  { s with devices := recorded accesses s.devices }

theorem recorded_append (xs ys : List Access) (before : List Nat) :
    recorded ys (recorded xs before) = recorded (xs ++ ys) before := by
  simp [recorded]

variable (s : State)

@[simp] theorem State.noted_nil : s.noted [] = s := rfl

@[simp] theorem State.noted_noted (xs ys : List Access) : (s.noted xs).noted ys = s.noted (xs ++ ys) := by
  simp only [State.noted, recorded_append]

@[simp] theorem State.noted_a (xs : List Access) : (s.noted xs).a = s.a := rfl
@[simp] theorem State.noted_x (xs : List Access) : (s.noted xs).x = s.x := rfl
@[simp] theorem State.noted_y (xs : List Access) : (s.noted xs).y = s.y := rfl
@[simp] theorem State.noted_sp (xs : List Access) : (s.noted xs).sp = s.sp := rfl
@[simp] theorem State.noted_pc (xs : List Access) : (s.noted xs).pc = s.pc := rfl
@[simp] theorem State.noted_flags (xs : List Access) : (s.noted xs).flags = s.flags := rfl
@[simp] theorem State.noted_cycles (xs : List Access) : (s.noted xs).cycles = s.cycles := rfl
@[simp] theorem State.read_noted (xs : List Access) (p : Addr) : (s.noted xs).read p = s.read p := rfl
@[simp] theorem State.read16_noted (xs : List Access) (p : Addr) : (s.noted xs).read16 p = s.read16 p := rfl
@[simp] theorem State.pulled_noted (xs : List Access) : (s.noted xs).pulled = s.pulled := rfl
@[simp] theorem State.pulled16_noted (xs : List Access) : (s.noted xs).pulled16 = s.pulled16 := rfl
@[simp] theorem State.write_noted (xs : List Access) (p : Addr) (v : Byte) :
    (s.noted xs).write p v = (s.write p v).noted xs := rfl
@[simp] theorem State.push_noted (xs : List Access) (v : Byte) :
    (s.noted xs).push v = (s.push v).noted xs := rfl
@[simp] theorem State.push16_noted (xs : List Access) (p : Addr) :
    (s.noted xs).push16 p = (s.push16 p).noted xs := rfl
@[simp] theorem State.afterPull_noted (xs : List Access) : (s.noted xs).afterPull = s.afterPull.noted xs := rfl

@[simp] theorem State.readOn_recorder (p : Addr) :
    s.readOn recorder p = (s.read p, s.noted [.read p]) := rfl

@[simp] theorem State.writeOn_recorder (p : Addr) (v : Byte) :
    s.writeOn recorder p v = (s.write p v).noted [.write p v] := rfl

@[simp] theorem State.pushOn_recorder (v : Byte) :
    s.pushOn recorder v = (s.push v).noted (pushAccesses s.sp [v]) := rfl

@[simp] theorem State.push16On_recorder (p : Addr) :
    s.push16On recorder p = (s.push16 p).noted (pushAccesses s.sp [highByte p, lowByte p]) := rfl

@[simp] theorem State.pullOn_recorder :
    s.pullOn recorder = (s.pulled, s.afterPull.noted (pullAccesses s.sp 1)) := rfl

@[simp] theorem State.pull16On_recorder :
    s.pull16On recorder = (s.pulled16, s.afterPull.afterPull.noted (pullAccesses s.sp 2)) := rfl

@[simp] theorem State.read16On_recorder (p : Addr) :
    s.read16On recorder p = (s.read16 p, s.noted [.read p, .read (p + 1#16)]) := rfl

@[simp] theorem resolveOn_recorder (o : Operand) :
    resolveOn recorder o s = (resolve o s, s.noted (pointerAccesses o s)) := by
  cases o <;> first | rfl | (rename_i m; cases m <;> first | rfl | (rename_i ix; cases ix <;> rfl))

@[simp] theorem interruptEntryOn_recorder (breakBit : Bool) (vector : Addr) :
    interruptEntryOn recorder breakBit vector s =
      (interruptEntry breakBit vector s).noted (entryAccesses breakBit vector s) := by
  simp [interruptEntryOn, interruptEntry_eq, entryAccesses, pushAccesses]
  rfl

theorem State.readRunOn_noted (xs : List Access) (a : Addr) (n : Nat) :
    ((s.noted xs).readRunOn Config.bus a n).1 = (s.readRunOn Config.bus a n).1 := by
  induction n generalizing a with
  | zero => rfl
  | succ n ih => exact congrArg (s.read a :: ·) (ih _)

/-- A run of reads: the bytes it gives and the reads it makes. -/
theorem State.readRunOn_recorder (a : Addr) (n : Nat) :
    s.readRunOn recorder a n = ((s.readRunOn Config.bus a n).1,
      s.noted ((List.range n).map fun k => .read (a + BitVec.ofNat 16 k))) := by
  induction n generalizing s a with
  | zero => rfl
  | succ n ih =>
    have e : ∀ k, a + 1#16 + BitVec.ofNat 16 k = a + BitVec.ofNat 16 (k + 1) := fun k => by
      rw [BitVec.add_assoc, BitVec.ofNat_add, BitVec.add_comm (BitVec.ofNat 16 k)]
    simp [State.readRunOn, ih, State.readRunOn_noted, List.range_succ_eq_map, Function.comp_def, e]

/-! ## The default bus never looks at the devices' state -/

theorem resolve_noted (o : Operand) (xs : List Access) : resolve o (s.noted xs) = resolve o s := by
  cases o <;> first | rfl | (rename_i m; cases m <;> first | rfl | (rename_i ix; cases ix <;> rfl))

theorem interruptEntry_noted (breakBit : Bool) (vector : Addr) (xs : List Access) :
    interruptEntry breakBit vector (s.noted xs) = (interruptEntry breakBit vector s).noted xs := by
  simp only [interruptEntry_eq, State.noted_pc, State.noted_flags, State.push16_noted, State.push_noted,
    State.read16_noted]
  rfl

theorem branchEffect_noted (cond : Flags → Bool) (bus : Bus) (r : Resolved) (xs : List Access) :
    branchEffect cond bus r (s.noted xs) =
      ((branchEffect cond bus r s).1.noted xs, (branchEffect cond bus r s).2) := by
  by_cases h : cond s.flags = true
  · simp only [branchEffect, State.noted_flags, h, if_true]
    rfl
  · simp only [branchEffect, State.noted_flags, h]
    rfl

theorem effectOf_noted (mn : Mnemonic) (o : Operand) (xs : List Access) :
    effectOf mn o (s.noted xs) = ((effectOf mn o s).1.noted xs, (effectOf mn o s).2) := by
  unfold effectOf
  rw [resolve_noted]
  generalize resolve o s = r
  cases mn
  case BRK =>
    simp only [effectFor, stackEffect, softwareBreak_default]
    exact congrArg (·, 0) (interruptEntry_noted { s with pc := s.pc + 1#16 } true irqVector xs)
  all_goals simp only [effectFor]
  all_goals first
    | rfl
    | exact branchEffect_noted s _ _ _ _
    | (cases o <;> rfl)

theorem afterInstruction_noted (i : Instr) (xs : List Access) :
    afterInstruction i (s.noted xs) = (afterInstruction i s).noted xs := by
  show finish i.opcode s.flags.i (resolve i.operand ((s.advance i.length).noted xs)).crossed
    (effectOf i.mnemonic i.operand ((s.advance i.length).noted xs)).2
    (effectOf i.mnemonic i.operand ((s.advance i.length).noted xs)).1 = _
  rw [resolve_noted, effectOf_noted]
  rfl

end Sys2Proof.Machine
end

