-- ==== Sys2Proof/Tests/Slice0.lean ====
section
/-! SUPPORT. The model's own tests. Decoding is tested on words written out from spec/30_encoding.md R150 to R154;
single steps on the vectors of spec/95_test_vectors.md, each named by its vector; and for every statement with
hypotheses there is a witness that meets them. -/

namespace Sys2Proof.Tests

open Sys2Proof.Machine

/-! ## Well-formedness: an ill-formed term for each check -/

theorem test_wf_displacement_too_low : (Instr.bpl (-129)).wellFormed = false := by decide
theorem test_wf_displacement_too_high : (Instr.bpl 128).wellFormed = false := by decide
theorem test_wf_displacement_ends : (Instr.beq (-128)).wellFormed = true ∧ (Instr.beq 127).wellFormed = true := by
  decide

/-! ## Decoding: every opcode, sixteen at a time

The operand bytes are 0x34 and 0x12 (the address 0x1234, the lower byte first), and 0xFD (-3) for a branch. -/

/-- The instructions that lists of bytes start with. -/
def decoded (l : List (List Byte)) : List Decoded := l.map decode

theorem test_decode_row_0 :
    decoded [
      [0x00#8], [0x01#8, 0x34#8], [0x02#8], [0x03#8, 0x34#8], [0x04#8, 0x34#8], [0x05#8, 0x34#8],
      [0x06#8, 0x34#8], [0x07#8, 0x34#8], [0x08#8], [0x09#8, 0x34#8], [0x0A#8], [0x0B#8, 0x34#8],
      [0x0C#8, 0x34#8, 0x12#8], [0x0D#8, 0x34#8, 0x12#8], [0x0E#8, 0x34#8, 0x12#8], [0x0F#8, 0x34#8, 0x12#8]] = [
      .instr .brk [], .instr (.oraIndX 0x34#8) [], .instr .jam02 [], .instr (.sloIndX 0x34#8) [],
      .instr (.nopZp04 0x34#8) [], .instr (.oraZp 0x34#8) [], .instr (.aslZp 0x34#8) [],
      .instr (.sloZp 0x34#8) [], .instr .php [], .instr (.oraImm 0x34#8) [], .instr .aslAcc [],
      .instr (.ancImm0B 0x34#8) [], .instr (.nopAbs 0x1234#16) [], .instr (.oraAbs 0x1234#16) [],
      .instr (.aslAbs 0x1234#16) [], .instr (.sloAbs 0x1234#16) []] := by
  decide

theorem test_decode_row_1 :
    decoded [
      [0x10#8, 0xFD#8], [0x11#8, 0x34#8], [0x12#8], [0x13#8, 0x34#8], [0x14#8, 0x34#8], [0x15#8, 0x34#8],
      [0x16#8, 0x34#8], [0x17#8, 0x34#8], [0x18#8], [0x19#8, 0x34#8, 0x12#8], [0x1A#8],
      [0x1B#8, 0x34#8, 0x12#8], [0x1C#8, 0x34#8, 0x12#8], [0x1D#8, 0x34#8, 0x12#8], [0x1E#8, 0x34#8, 0x12#8],
      [0x1F#8, 0x34#8, 0x12#8]] = [
      .instr (.bpl (-3)) [], .instr (.oraIndY 0x34#8) [], .instr .jam12 [], .instr (.sloIndY 0x34#8) [],
      .instr (.nopZpX14 0x34#8) [], .instr (.oraZpX 0x34#8) [], .instr (.aslZpX 0x34#8) [],
      .instr (.sloZpX 0x34#8) [], .instr .clc [], .instr (.oraAbsY 0x1234#16) [], .instr .nop1A [],
      .instr (.sloAbsY 0x1234#16) [], .instr (.nopAbsX1C 0x1234#16) [], .instr (.oraAbsX 0x1234#16) [],
      .instr (.aslAbsX 0x1234#16) [], .instr (.sloAbsX 0x1234#16) []] := by
  decide

theorem test_decode_row_2 :
    decoded [
      [0x20#8, 0x34#8, 0x12#8], [0x21#8, 0x34#8], [0x22#8], [0x23#8, 0x34#8], [0x24#8, 0x34#8],
      [0x25#8, 0x34#8], [0x26#8, 0x34#8], [0x27#8, 0x34#8], [0x28#8], [0x29#8, 0x34#8], [0x2A#8],
      [0x2B#8, 0x34#8], [0x2C#8, 0x34#8, 0x12#8], [0x2D#8, 0x34#8, 0x12#8], [0x2E#8, 0x34#8, 0x12#8],
      [0x2F#8, 0x34#8, 0x12#8]] = [
      .instr (.jsr 0x1234#16) [], .instr (.andIndX 0x34#8) [], .instr .jam22 [], .instr (.rlaIndX 0x34#8) [],
      .instr (.bitZp 0x34#8) [], .instr (.andZp 0x34#8) [], .instr (.rolZp 0x34#8) [],
      .instr (.rlaZp 0x34#8) [], .instr .plp [], .instr (.andImm 0x34#8) [], .instr .rolAcc [],
      .instr (.ancImm2B 0x34#8) [], .instr (.bitAbs 0x1234#16) [], .instr (.andAbs 0x1234#16) [],
      .instr (.rolAbs 0x1234#16) [], .instr (.rlaAbs 0x1234#16) []] := by
  decide

theorem test_decode_row_3 :
    decoded [
      [0x30#8, 0xFD#8], [0x31#8, 0x34#8], [0x32#8], [0x33#8, 0x34#8], [0x34#8, 0x34#8], [0x35#8, 0x34#8],
      [0x36#8, 0x34#8], [0x37#8, 0x34#8], [0x38#8], [0x39#8, 0x34#8, 0x12#8], [0x3A#8],
      [0x3B#8, 0x34#8, 0x12#8], [0x3C#8, 0x34#8, 0x12#8], [0x3D#8, 0x34#8, 0x12#8], [0x3E#8, 0x34#8, 0x12#8],
      [0x3F#8, 0x34#8, 0x12#8]] = [
      .instr (.bmi (-3)) [], .instr (.andIndY 0x34#8) [], .instr .jam32 [], .instr (.rlaIndY 0x34#8) [],
      .instr (.nopZpX34 0x34#8) [], .instr (.andZpX 0x34#8) [], .instr (.rolZpX 0x34#8) [],
      .instr (.rlaZpX 0x34#8) [], .instr .sec [], .instr (.andAbsY 0x1234#16) [], .instr .nop3A [],
      .instr (.rlaAbsY 0x1234#16) [], .instr (.nopAbsX3C 0x1234#16) [], .instr (.andAbsX 0x1234#16) [],
      .instr (.rolAbsX 0x1234#16) [], .instr (.rlaAbsX 0x1234#16) []] := by
  decide

theorem test_decode_row_4 :
    decoded [
      [0x40#8], [0x41#8, 0x34#8], [0x42#8], [0x43#8, 0x34#8], [0x44#8, 0x34#8], [0x45#8, 0x34#8],
      [0x46#8, 0x34#8], [0x47#8, 0x34#8], [0x48#8], [0x49#8, 0x34#8], [0x4A#8], [0x4B#8, 0x34#8],
      [0x4C#8, 0x34#8, 0x12#8], [0x4D#8, 0x34#8, 0x12#8], [0x4E#8, 0x34#8, 0x12#8], [0x4F#8, 0x34#8, 0x12#8]] = [
      .instr .rti [], .instr (.eorIndX 0x34#8) [], .instr .jam42 [], .instr (.sreIndX 0x34#8) [],
      .instr (.nopZp44 0x34#8) [], .instr (.eorZp 0x34#8) [], .instr (.lsrZp 0x34#8) [],
      .instr (.sreZp 0x34#8) [], .instr .pha [], .instr (.eorImm 0x34#8) [], .instr .lsrAcc [],
      .instr (.alrImm 0x34#8) [], .instr (.jmpAbs 0x1234#16) [], .instr (.eorAbs 0x1234#16) [],
      .instr (.lsrAbs 0x1234#16) [], .instr (.sreAbs 0x1234#16) []] := by
  decide

theorem test_decode_row_5 :
    decoded [
      [0x50#8, 0xFD#8], [0x51#8, 0x34#8], [0x52#8], [0x53#8, 0x34#8], [0x54#8, 0x34#8], [0x55#8, 0x34#8],
      [0x56#8, 0x34#8], [0x57#8, 0x34#8], [0x58#8], [0x59#8, 0x34#8, 0x12#8], [0x5A#8],
      [0x5B#8, 0x34#8, 0x12#8], [0x5C#8, 0x34#8, 0x12#8], [0x5D#8, 0x34#8, 0x12#8], [0x5E#8, 0x34#8, 0x12#8],
      [0x5F#8, 0x34#8, 0x12#8]] = [
      .instr (.bvc (-3)) [], .instr (.eorIndY 0x34#8) [], .instr .jam52 [], .instr (.sreIndY 0x34#8) [],
      .instr (.nopZpX54 0x34#8) [], .instr (.eorZpX 0x34#8) [], .instr (.lsrZpX 0x34#8) [],
      .instr (.sreZpX 0x34#8) [], .instr .cli [], .instr (.eorAbsY 0x1234#16) [], .instr .nop5A [],
      .instr (.sreAbsY 0x1234#16) [], .instr (.nopAbsX5C 0x1234#16) [], .instr (.eorAbsX 0x1234#16) [],
      .instr (.lsrAbsX 0x1234#16) [], .instr (.sreAbsX 0x1234#16) []] := by
  decide

theorem test_decode_row_6 :
    decoded [
      [0x60#8], [0x61#8, 0x34#8], [0x62#8], [0x63#8, 0x34#8], [0x64#8, 0x34#8], [0x65#8, 0x34#8],
      [0x66#8, 0x34#8], [0x67#8, 0x34#8], [0x68#8], [0x69#8, 0x34#8], [0x6A#8], [0x6B#8, 0x34#8],
      [0x6C#8, 0x34#8, 0x12#8], [0x6D#8, 0x34#8, 0x12#8], [0x6E#8, 0x34#8, 0x12#8], [0x6F#8, 0x34#8, 0x12#8]] = [
      .instr .rts [], .instr (.adcIndX 0x34#8) [], .instr .jam62 [], .instr (.rraIndX 0x34#8) [],
      .instr (.nopZp64 0x34#8) [], .instr (.adcZp 0x34#8) [], .instr (.rorZp 0x34#8) [],
      .instr (.rraZp 0x34#8) [], .instr .pla [], .instr (.adcImm 0x34#8) [], .instr .rorAcc [],
      .instr (.arrImm 0x34#8) [], .instr (.jmpInd 0x1234#16) [], .instr (.adcAbs 0x1234#16) [],
      .instr (.rorAbs 0x1234#16) [], .instr (.rraAbs 0x1234#16) []] := by
  decide

theorem test_decode_row_7 :
    decoded [
      [0x70#8, 0xFD#8], [0x71#8, 0x34#8], [0x72#8], [0x73#8, 0x34#8], [0x74#8, 0x34#8], [0x75#8, 0x34#8],
      [0x76#8, 0x34#8], [0x77#8, 0x34#8], [0x78#8], [0x79#8, 0x34#8, 0x12#8], [0x7A#8],
      [0x7B#8, 0x34#8, 0x12#8], [0x7C#8, 0x34#8, 0x12#8], [0x7D#8, 0x34#8, 0x12#8], [0x7E#8, 0x34#8, 0x12#8],
      [0x7F#8, 0x34#8, 0x12#8]] = [
      .instr (.bvs (-3)) [], .instr (.adcIndY 0x34#8) [], .instr .jam72 [], .instr (.rraIndY 0x34#8) [],
      .instr (.nopZpX74 0x34#8) [], .instr (.adcZpX 0x34#8) [], .instr (.rorZpX 0x34#8) [],
      .instr (.rraZpX 0x34#8) [], .instr .sei [], .instr (.adcAbsY 0x1234#16) [], .instr .nop7A [],
      .instr (.rraAbsY 0x1234#16) [], .instr (.nopAbsX7C 0x1234#16) [], .instr (.adcAbsX 0x1234#16) [],
      .instr (.rorAbsX 0x1234#16) [], .instr (.rraAbsX 0x1234#16) []] := by
  decide

theorem test_decode_row_8 :
    decoded [
      [0x80#8, 0x34#8], [0x81#8, 0x34#8], [0x82#8, 0x34#8], [0x83#8, 0x34#8], [0x84#8, 0x34#8],
      [0x85#8, 0x34#8], [0x86#8, 0x34#8], [0x87#8, 0x34#8], [0x88#8], [0x89#8, 0x34#8], [0x8A#8],
      [0x8B#8, 0x34#8], [0x8C#8, 0x34#8, 0x12#8], [0x8D#8, 0x34#8, 0x12#8], [0x8E#8, 0x34#8, 0x12#8],
      [0x8F#8, 0x34#8, 0x12#8]] = [
      .instr (.nopImm80 0x34#8) [], .instr (.staIndX 0x34#8) [], .instr (.nopImm82 0x34#8) [],
      .instr (.saxIndX 0x34#8) [], .instr (.styZp 0x34#8) [], .instr (.staZp 0x34#8) [],
      .instr (.stxZp 0x34#8) [], .instr (.saxZp 0x34#8) [], .instr .dey [], .instr (.nopImm89 0x34#8) [],
      .instr .txa [], .instr (.aneImm 0x34#8) [], .instr (.styAbs 0x1234#16) [], .instr (.staAbs 0x1234#16) [],
      .instr (.stxAbs 0x1234#16) [], .instr (.saxAbs 0x1234#16) []] := by
  decide

theorem test_decode_row_9 :
    decoded [
      [0x90#8, 0xFD#8], [0x91#8, 0x34#8], [0x92#8], [0x93#8, 0x34#8], [0x94#8, 0x34#8], [0x95#8, 0x34#8],
      [0x96#8, 0x34#8], [0x97#8, 0x34#8], [0x98#8], [0x99#8, 0x34#8, 0x12#8], [0x9A#8],
      [0x9B#8, 0x34#8, 0x12#8], [0x9C#8, 0x34#8, 0x12#8], [0x9D#8, 0x34#8, 0x12#8], [0x9E#8, 0x34#8, 0x12#8],
      [0x9F#8, 0x34#8, 0x12#8]] = [
      .instr (.bcc (-3)) [], .instr (.staIndY 0x34#8) [], .instr .jam92 [], .instr (.shaIndY 0x34#8) [],
      .instr (.styZpX 0x34#8) [], .instr (.staZpX 0x34#8) [], .instr (.stxZpY 0x34#8) [],
      .instr (.saxZpY 0x34#8) [], .instr .tya [], .instr (.staAbsY 0x1234#16) [], .instr .txs [],
      .instr (.tasAbsY 0x1234#16) [], .instr (.shyAbsX 0x1234#16) [], .instr (.staAbsX 0x1234#16) [],
      .instr (.shxAbsY 0x1234#16) [], .instr (.shaAbsY 0x1234#16) []] := by
  decide

theorem test_decode_row_A :
    decoded [
      [0xA0#8, 0x34#8], [0xA1#8, 0x34#8], [0xA2#8, 0x34#8], [0xA3#8, 0x34#8], [0xA4#8, 0x34#8],
      [0xA5#8, 0x34#8], [0xA6#8, 0x34#8], [0xA7#8, 0x34#8], [0xA8#8], [0xA9#8, 0x34#8], [0xAA#8],
      [0xAB#8, 0x34#8], [0xAC#8, 0x34#8, 0x12#8], [0xAD#8, 0x34#8, 0x12#8], [0xAE#8, 0x34#8, 0x12#8],
      [0xAF#8, 0x34#8, 0x12#8]] = [
      .instr (.ldyImm 0x34#8) [], .instr (.ldaIndX 0x34#8) [], .instr (.ldxImm 0x34#8) [],
      .instr (.laxIndX 0x34#8) [], .instr (.ldyZp 0x34#8) [], .instr (.ldaZp 0x34#8) [],
      .instr (.ldxZp 0x34#8) [], .instr (.laxZp 0x34#8) [], .instr .tay [], .instr (.ldaImm 0x34#8) [],
      .instr .tax [], .instr (.lxaImm 0x34#8) [], .instr (.ldyAbs 0x1234#16) [], .instr (.ldaAbs 0x1234#16) [],
      .instr (.ldxAbs 0x1234#16) [], .instr (.laxAbs 0x1234#16) []] := by
  decide

theorem test_decode_row_B :
    decoded [
      [0xB0#8, 0xFD#8], [0xB1#8, 0x34#8], [0xB2#8], [0xB3#8, 0x34#8], [0xB4#8, 0x34#8], [0xB5#8, 0x34#8],
      [0xB6#8, 0x34#8], [0xB7#8, 0x34#8], [0xB8#8], [0xB9#8, 0x34#8, 0x12#8], [0xBA#8],
      [0xBB#8, 0x34#8, 0x12#8], [0xBC#8, 0x34#8, 0x12#8], [0xBD#8, 0x34#8, 0x12#8], [0xBE#8, 0x34#8, 0x12#8],
      [0xBF#8, 0x34#8, 0x12#8]] = [
      .instr (.bcs (-3)) [], .instr (.ldaIndY 0x34#8) [], .instr .jamB2 [], .instr (.laxIndY 0x34#8) [],
      .instr (.ldyZpX 0x34#8) [], .instr (.ldaZpX 0x34#8) [], .instr (.ldxZpY 0x34#8) [],
      .instr (.laxZpY 0x34#8) [], .instr .clv [], .instr (.ldaAbsY 0x1234#16) [], .instr .tsx [],
      .instr (.lasAbsY 0x1234#16) [], .instr (.ldyAbsX 0x1234#16) [], .instr (.ldaAbsX 0x1234#16) [],
      .instr (.ldxAbsY 0x1234#16) [], .instr (.laxAbsY 0x1234#16) []] := by
  decide

theorem test_decode_row_C :
    decoded [
      [0xC0#8, 0x34#8], [0xC1#8, 0x34#8], [0xC2#8, 0x34#8], [0xC3#8, 0x34#8], [0xC4#8, 0x34#8],
      [0xC5#8, 0x34#8], [0xC6#8, 0x34#8], [0xC7#8, 0x34#8], [0xC8#8], [0xC9#8, 0x34#8], [0xCA#8],
      [0xCB#8, 0x34#8], [0xCC#8, 0x34#8, 0x12#8], [0xCD#8, 0x34#8, 0x12#8], [0xCE#8, 0x34#8, 0x12#8],
      [0xCF#8, 0x34#8, 0x12#8]] = [
      .instr (.cpyImm 0x34#8) [], .instr (.cmpIndX 0x34#8) [], .instr (.nopImmC2 0x34#8) [],
      .instr (.dcpIndX 0x34#8) [], .instr (.cpyZp 0x34#8) [], .instr (.cmpZp 0x34#8) [],
      .instr (.decZp 0x34#8) [], .instr (.dcpZp 0x34#8) [], .instr .iny [], .instr (.cmpImm 0x34#8) [],
      .instr .dex [], .instr (.sbxImm 0x34#8) [], .instr (.cpyAbs 0x1234#16) [], .instr (.cmpAbs 0x1234#16) [],
      .instr (.decAbs 0x1234#16) [], .instr (.dcpAbs 0x1234#16) []] := by
  decide

theorem test_decode_row_D :
    decoded [
      [0xD0#8, 0xFD#8], [0xD1#8, 0x34#8], [0xD2#8], [0xD3#8, 0x34#8], [0xD4#8, 0x34#8], [0xD5#8, 0x34#8],
      [0xD6#8, 0x34#8], [0xD7#8, 0x34#8], [0xD8#8], [0xD9#8, 0x34#8, 0x12#8], [0xDA#8],
      [0xDB#8, 0x34#8, 0x12#8], [0xDC#8, 0x34#8, 0x12#8], [0xDD#8, 0x34#8, 0x12#8], [0xDE#8, 0x34#8, 0x12#8],
      [0xDF#8, 0x34#8, 0x12#8]] = [
      .instr (.bne (-3)) [], .instr (.cmpIndY 0x34#8) [], .instr .jamD2 [], .instr (.dcpIndY 0x34#8) [],
      .instr (.nopZpXD4 0x34#8) [], .instr (.cmpZpX 0x34#8) [], .instr (.decZpX 0x34#8) [],
      .instr (.dcpZpX 0x34#8) [], .instr .cld [], .instr (.cmpAbsY 0x1234#16) [], .instr .nopDA [],
      .instr (.dcpAbsY 0x1234#16) [], .instr (.nopAbsXDC 0x1234#16) [], .instr (.cmpAbsX 0x1234#16) [],
      .instr (.decAbsX 0x1234#16) [], .instr (.dcpAbsX 0x1234#16) []] := by
  decide

theorem test_decode_row_E :
    decoded [
      [0xE0#8, 0x34#8], [0xE1#8, 0x34#8], [0xE2#8, 0x34#8], [0xE3#8, 0x34#8], [0xE4#8, 0x34#8],
      [0xE5#8, 0x34#8], [0xE6#8, 0x34#8], [0xE7#8, 0x34#8], [0xE8#8], [0xE9#8, 0x34#8], [0xEA#8],
      [0xEB#8, 0x34#8], [0xEC#8, 0x34#8, 0x12#8], [0xED#8, 0x34#8, 0x12#8], [0xEE#8, 0x34#8, 0x12#8],
      [0xEF#8, 0x34#8, 0x12#8]] = [
      .instr (.cpxImm 0x34#8) [], .instr (.sbcIndX 0x34#8) [], .instr (.nopImmE2 0x34#8) [],
      .instr (.iscIndX 0x34#8) [], .instr (.cpxZp 0x34#8) [], .instr (.sbcZp 0x34#8) [],
      .instr (.incZp 0x34#8) [], .instr (.iscZp 0x34#8) [], .instr .inx [], .instr (.sbcImm 0x34#8) [],
      .instr .nop [], .instr (.usbcImm 0x34#8) [], .instr (.cpxAbs 0x1234#16) [],
      .instr (.sbcAbs 0x1234#16) [], .instr (.incAbs 0x1234#16) [], .instr (.iscAbs 0x1234#16) []] := by
  decide

theorem test_decode_row_F :
    decoded [
      [0xF0#8, 0xFD#8], [0xF1#8, 0x34#8], [0xF2#8], [0xF3#8, 0x34#8], [0xF4#8, 0x34#8], [0xF5#8, 0x34#8],
      [0xF6#8, 0x34#8], [0xF7#8, 0x34#8], [0xF8#8], [0xF9#8, 0x34#8, 0x12#8], [0xFA#8],
      [0xFB#8, 0x34#8, 0x12#8], [0xFC#8, 0x34#8, 0x12#8], [0xFD#8, 0x34#8, 0x12#8], [0xFE#8, 0x34#8, 0x12#8],
      [0xFF#8, 0x34#8, 0x12#8]] = [
      .instr (.beq (-3)) [], .instr (.sbcIndY 0x34#8) [], .instr .jamF2 [], .instr (.iscIndY 0x34#8) [],
      .instr (.nopZpXF4 0x34#8) [], .instr (.sbcZpX 0x34#8) [], .instr (.incZpX 0x34#8) [],
      .instr (.iscZpX 0x34#8) [], .instr .sed [], .instr (.sbcAbsY 0x1234#16) [], .instr .nopFA [],
      .instr (.iscAbsY 0x1234#16) [], .instr (.nopAbsXFC 0x1234#16) [], .instr (.sbcAbsX 0x1234#16) [],
      .instr (.incAbsX 0x1234#16) [], .instr (.iscAbsX 0x1234#16) []] := by
  decide

/-- A list that ends too early is rejected by name (R160). -/
theorem test_decode_rejects :
    decode [] = .rejected .noOpcode ∧ decode [0xAD#8, 0x34#8] = .rejected (.operandBytesMissing 0xAD#8) ∧
    decode [0xD0#8] = .rejected (.operandBytesMissing 0xD0#8) := by
  decide

/-- The bytes after the instruction are left (R160). -/
theorem test_decode_rest : decode [0xA9#8, 0x80#8, 0xEA#8] = .instr (.ldaImm 0x80#8) [0xEA#8] := by decide

/-- Encodings, from the same table. -/
theorem test_encode :
    encode (.jmpInd 0x30FF#16) = [0x6C#8, 0xFF#8, 0x30#8] ∧ encode (.bne (-128)) = [0xD0#8, 0x80#8] ∧
    encode .brk = [0x00#8] := by
  decide

/-- The host's numbering: bit 0 is the least significant bit of the first byte. -/
theorem test_decodeTableWord :
    decodeTableWord 24 0x1234AD = some (.ldaAbs 0x1234#16) ∧ decodeTableWord 8 0xA9 = some (.ldaImm 0x00#8) ∧
    decodeTableWord 16 0xFDD0 = some (.bne (-3)) := by
  decide

/-! ## One step, on the vectors of spec/95_test_vectors.md -/

/-- The start state of a vector: the state after reset, cells of memory, the code at 0x0200 and PC there. -/
def start (cells : List (Addr × Byte)) (code : List Byte) : State :=
  { (cells.foldl (fun s c => s.write c.1 c.2) (State.reset.loadBytes 0x0200#16 code)) with pc := 0x0200#16 }

/-- The flags of a vector, with I_poll as after any instruction but CLI, SEI and PLP. -/
def withP (p : Byte) (s : State) : State := { s with flags := Flags.unpack p, iPoll := (Flags.unpack p).i }

/-- What a vector looks at after one step: A, X, Y, SP and P, PC, the step's cycles, and some bytes of memory. -/
structure Seen where
  regs : List Byte
  pc : Addr
  cycles : Option Nat
  bytes : List Byte
  deriving DecidableEq, Repr

/-- One step from a state, and a look at the result. -/
def seen (s : State) (at_ : List Addr) : Option Seen :=
  match step s with
  | .next t => some ⟨[t.a, t.x, t.y, t.sp, Driver.statusByte t], t.pc, Driver.cyclesConsumed s, at_.map t.read⟩
  | .fault _ => none
  | .refused _ => none

theorem test_V1_LDA :
    seen { start [(0x0010#16, 0x5A#8)] [0xB5#8, 0xF0#8] with x := 0x20#8 } [] =
      some ⟨[0x5A#8, 0x20#8, 0x00#8, 0xFD#8, 0x24#8], 0x0202#16, some 4, []⟩ := by
  decide
theorem test_V2_LDX :
    seen { start [(0x0010#16, 0x77#8)] [0xB6#8, 0xF0#8] with y := 0x20#8 } [] =
      some ⟨[0x00#8, 0x77#8, 0x20#8, 0xFD#8, 0x24#8], 0x0202#16, some 4, []⟩ := by
  decide
theorem test_V5_LDA :
    seen { start [(0x0000#16, 0x03#8)] [0xBD#8, 0xFF#8, 0xFF#8] with x := 0x01#8 } [] =
      some ⟨[0x03#8, 0x01#8, 0x00#8, 0xFD#8, 0x24#8], 0x0203#16, some 5, []⟩ := by
  decide
theorem test_V7_LDA :
    seen { start [(0x00FF#16, 0x34#8), (0x0000#16, 0x12#8), (0x1234#16, 0x05#8)] [0xA1#8, 0xFE#8] with x := 0x01#8 } [] =
      some ⟨[0x05#8, 0x01#8, 0x00#8, 0xFD#8, 0x24#8], 0x0202#16, some 6, []⟩ := by
  decide
theorem test_V9_LDA :
    seen { start [(0x00FF#16, 0xF8#8), (0x0000#16, 0x12#8), (0x1308#16, 0x07#8)] [0xB1#8, 0xFF#8] with y := 0x10#8 } [] =
      some ⟨[0x07#8, 0x00#8, 0x10#8, 0xFD#8, 0x24#8], 0x0202#16, some 6, []⟩ := by
  decide
theorem test_V11_STA :
    seen { start [] [0x9D#8, 0xFF#8, 0x12#8] with a := 0x99#8, x := 0x01#8 } [0x1300#16] =
      some ⟨[0x99#8, 0x01#8, 0x00#8, 0xFD#8, 0x24#8], 0x0203#16, some 5, [0x99#8]⟩ := by
  decide
theorem test_V13_JMP :
    seen (start [(0x30FF#16, 0x80#8), (0x3000#16, 0x50#8), (0x3100#16, 0x40#8)] [0x6C#8, 0xFF#8, 0x30#8]) [] =
      some ⟨[0x00#8, 0x00#8, 0x00#8, 0xFD#8, 0x24#8], 0x5080#16, some 5, []⟩ := by
  decide
theorem test_V20_ADC :
    seen { start [] [0x69#8, 0x10#8] with a := 0x50#8 } [] =
      some ⟨[0x60#8, 0x00#8, 0x00#8, 0xFD#8, 0x24#8], 0x0202#16, some 2, []⟩ := by
  decide
theorem test_V21_ADC :
    seen { start [] [0x69#8, 0x50#8] with a := 0x50#8 } [] =
      some ⟨[0xA0#8, 0x00#8, 0x00#8, 0xFD#8, 0xE4#8], 0x0202#16, some 2, []⟩ := by
  decide
theorem test_V30_SBC :
    seen { withP 0x25#8 (start [] [0xE9#8, 0xF0#8]) with a := 0x50#8 } [] =
      some ⟨[0x60#8, 0x00#8, 0x00#8, 0xFD#8, 0x24#8], 0x0202#16, some 2, []⟩ := by
  decide
theorem test_V50_AND :
    seen { start [] [0x29#8, 0x0F#8] with a := 0xF0#8 } [] =
      some ⟨[0x00#8, 0x00#8, 0x00#8, 0xFD#8, 0x26#8], 0x0202#16, some 2, []⟩ := by
  decide
theorem test_V51_ORA :
    seen { start [] [0x09#8, 0x80#8] with a := 0x01#8 } [] =
      some ⟨[0x81#8, 0x00#8, 0x00#8, 0xFD#8, 0xA4#8], 0x0202#16, some 2, []⟩ := by
  decide
theorem test_V52_EOR :
    seen { start [] [0x49#8, 0xFF#8] with a := 0xFF#8 } [] =
      some ⟨[0x00#8, 0x00#8, 0x00#8, 0xFD#8, 0x26#8], 0x0202#16, some 2, []⟩ := by
  decide
theorem test_V53_BIT :
    seen { start [(0x0020#16, 0xC0#8)] [0x24#8, 0x20#8] with a := 0x00#8 } [] =
      some ⟨[0x00#8, 0x00#8, 0x00#8, 0xFD#8, 0xE6#8], 0x0202#16, some 3, []⟩ := by
  decide
theorem test_V55_CMP :
    seen { start [] [0xC9#8, 0x10#8] with a := 0x10#8 } [] =
      some ⟨[0x10#8, 0x00#8, 0x00#8, 0xFD#8, 0x27#8], 0x0202#16, some 2, []⟩ := by
  decide
theorem test_V58_CPX :
    seen { start [] [0xE0#8, 0x00#8] with x := 0x00#8 } [] =
      some ⟨[0x00#8, 0x00#8, 0x00#8, 0xFD#8, 0x27#8], 0x0202#16, some 2, []⟩ := by
  decide
theorem test_V59_CPY :
    seen { start [] [0xC0#8, 0xFF#8] with y := 0x00#8 } [] =
      some ⟨[0x00#8, 0x00#8, 0x00#8, 0xFD#8, 0x24#8], 0x0202#16, some 2, []⟩ := by
  decide
theorem test_V60_INC :
    seen (start [(0x0020#16, 0xFF#8)] [0xE6#8, 0x20#8]) [0x0020#16] =
      some ⟨[0x00#8, 0x00#8, 0x00#8, 0xFD#8, 0x26#8], 0x0202#16, some 5, [0x00#8]⟩ := by
  decide
theorem test_V61_DEC :
    seen (start [(0x0020#16, 0x00#8)] [0xC6#8, 0x20#8]) [0x0020#16] =
      some ⟨[0x00#8, 0x00#8, 0x00#8, 0xFD#8, 0xA4#8], 0x0202#16, some 5, [0xFF#8]⟩ := by
  decide
theorem test_V62_INX :
    seen { start [] [0xE8#8] with x := 0x7F#8 } [] =
      some ⟨[0x00#8, 0x80#8, 0x00#8, 0xFD#8, 0xA4#8], 0x0201#16, some 2, []⟩ := by
  decide
theorem test_V63_INY :
    seen { start [] [0xC8#8] with y := 0xFF#8 } [] =
      some ⟨[0x00#8, 0x00#8, 0x00#8, 0xFD#8, 0x26#8], 0x0201#16, some 2, []⟩ := by
  decide
theorem test_V64_DEX :
    seen { start [] [0xCA#8] with x := 0x01#8 } [] =
      some ⟨[0x00#8, 0x00#8, 0x00#8, 0xFD#8, 0x26#8], 0x0201#16, some 2, []⟩ := by
  decide
theorem test_V65_DEY :
    seen { start [] [0x88#8] with y := 0x00#8 } [] =
      some ⟨[0x00#8, 0x00#8, 0xFF#8, 0xFD#8, 0xA4#8], 0x0201#16, some 2, []⟩ := by
  decide
theorem test_V70_ASL :
    seen { start [] [0x0A#8] with a := 0x80#8 } [] =
      some ⟨[0x00#8, 0x00#8, 0x00#8, 0xFD#8, 0x27#8], 0x0201#16, some 2, []⟩ := by
  decide
theorem test_V71_LSR :
    seen { start [] [0x4A#8] with a := 0x01#8 } [] =
      some ⟨[0x00#8, 0x00#8, 0x00#8, 0xFD#8, 0x27#8], 0x0201#16, some 2, []⟩ := by
  decide
theorem test_V72_ROL :
    seen { withP 0x24#8 (start [] [0x2A#8]) with a := 0x80#8 } [] =
      some ⟨[0x00#8, 0x00#8, 0x00#8, 0xFD#8, 0x27#8], 0x0201#16, some 2, []⟩ := by
  decide
theorem test_V74_ROR :
    seen { withP 0x24#8 (start [] [0x6A#8]) with a := 0x01#8 } [] =
      some ⟨[0x00#8, 0x00#8, 0x00#8, 0xFD#8, 0x27#8], 0x0201#16, some 2, []⟩ := by
  decide
theorem test_V83_LDY :
    seen (start [] [0xA0#8, 0xFF#8]) [] =
      some ⟨[0x00#8, 0x00#8, 0xFF#8, 0xFD#8, 0xA4#8], 0x0202#16, some 2, []⟩ := by
  decide
theorem test_V85_STX :
    seen { start [] [0x96#8, 0xFF#8] with x := 0x07#8, y := 0x02#8 } [0x0001#16] =
      some ⟨[0x00#8, 0x07#8, 0x02#8, 0xFD#8, 0x24#8], 0x0202#16, some 4, [0x07#8]⟩ := by
  decide
theorem test_V86_STY :
    seen { start [] [0x94#8, 0x80#8] with y := 0x01#8, x := 0x90#8 } [0x0010#16] =
      some ⟨[0x00#8, 0x90#8, 0x01#8, 0xFD#8, 0x24#8], 0x0202#16, some 4, [0x01#8]⟩ := by
  decide
theorem test_V87_TAX :
    seen { start [] [0xAA#8] with a := 0x90#8 } [] =
      some ⟨[0x90#8, 0x90#8, 0x00#8, 0xFD#8, 0xA4#8], 0x0201#16, some 2, []⟩ := by
  decide
theorem test_V88_TAY :
    seen { start [] [0xA8#8] with a := 0x00#8, y := 0x33#8 } [] =
      some ⟨[0x00#8, 0x00#8, 0x00#8, 0xFD#8, 0x26#8], 0x0201#16, some 2, []⟩ := by
  decide
theorem test_V89_TXA :
    seen { start [] [0x8A#8] with x := 0x7F#8 } [] =
      some ⟨[0x7F#8, 0x7F#8, 0x00#8, 0xFD#8, 0x24#8], 0x0201#16, some 2, []⟩ := by
  decide
theorem test_V90_TYA :
    seen { start [] [0x98#8] with y := 0x80#8 } [] =
      some ⟨[0x80#8, 0x00#8, 0x80#8, 0xFD#8, 0xA4#8], 0x0201#16, some 2, []⟩ := by
  decide
theorem test_V91_TSX :
    seen (start [] [0xBA#8]) [] =
      some ⟨[0x00#8, 0xFD#8, 0x00#8, 0xFD#8, 0xA4#8], 0x0201#16, some 2, []⟩ := by
  decide
theorem test_V92_TXS :
    seen { start [] [0x9A#8] with x := 0x00#8 } [] =
      some ⟨[0x00#8, 0x00#8, 0x00#8, 0x00#8, 0x24#8], 0x0201#16, some 2, []⟩ := by
  decide
theorem test_V100_BNE :
    seen (withP 0x24#8 (start [] [0xD0#8, 0x02#8])) [] =
      some ⟨[0x00#8, 0x00#8, 0x00#8, 0xFD#8, 0x24#8], 0x0204#16, some 3, []⟩ := by
  decide
theorem test_V101_BEQ :
    seen (start [] [0xF0#8, 0x02#8]) [] =
      some ⟨[0x00#8, 0x00#8, 0x00#8, 0xFD#8, 0x24#8], 0x0202#16, some 2, []⟩ := by
  decide
theorem test_V103_BPL :
    seen (start [] [0x10#8, 0x00#8]) [] =
      some ⟨[0x00#8, 0x00#8, 0x00#8, 0xFD#8, 0x24#8], 0x0202#16, some 3, []⟩ := by
  decide
theorem test_V106_BCC :
    seen (start [] [0x90#8, 0xFE#8]) [] =
      some ⟨[0x00#8, 0x00#8, 0x00#8, 0xFD#8, 0x24#8], 0x0200#16, some 3, []⟩ := by
  decide
theorem test_V107_BCS :
    seen (withP 0x25#8 (start [] [0xB0#8, 0x10#8])) [] =
      some ⟨[0x00#8, 0x00#8, 0x00#8, 0xFD#8, 0x25#8], 0x0212#16, some 3, []⟩ := by
  decide
theorem test_V108_BVC :
    seen (withP 0x64#8 (start [] [0x50#8, 0x10#8])) [] =
      some ⟨[0x00#8, 0x00#8, 0x00#8, 0xFD#8, 0x64#8], 0x0202#16, some 2, []⟩ := by
  decide
theorem test_V109_BVS :
    seen (withP 0x64#8 (start [] [0x70#8, 0x10#8])) [] =
      some ⟨[0x00#8, 0x00#8, 0x00#8, 0xFD#8, 0x64#8], 0x0212#16, some 3, []⟩ := by
  decide
theorem test_V111_JSR :
    seen (start [] [0x20#8, 0x00#8, 0x07#8]) [0x01FD#16, 0x01FC#16] =
      some ⟨[0x00#8, 0x00#8, 0x00#8, 0xFB#8, 0x24#8], 0x0700#16, some 6, [0x02#8, 0x02#8]⟩ := by
  decide
theorem test_V112_RTS :
    seen { start [(0x01FC#16, 0x02#8), (0x01FD#16, 0x06#8)] [0x60#8] with sp := 0xFB#8 } [] =
      some ⟨[0x00#8, 0x00#8, 0x00#8, 0xFD#8, 0x24#8], 0x0603#16, some 6, []⟩ := by
  decide
theorem test_V113_RTS :
    seen { start [(0x0100#16, 0xFF#8), (0x0101#16, 0xFF#8)] [0x60#8] with sp := 0xFF#8 } [] =
      some ⟨[0x00#8, 0x00#8, 0x00#8, 0x01#8, 0x24#8], 0x0000#16, some 6, []⟩ := by
  decide
theorem test_V120_PHA :
    seen { start [] [0x48#8] with a := 0x3C#8 } [0x01FD#16] =
      some ⟨[0x3C#8, 0x00#8, 0x00#8, 0xFC#8, 0x24#8], 0x0201#16, some 3, [0x3C#8]⟩ := by
  decide
theorem test_V122_PHP :
    seen (start [] [0x08#8]) [0x01FD#16] =
      some ⟨[0x00#8, 0x00#8, 0x00#8, 0xFC#8, 0x24#8], 0x0201#16, some 3, [0x34#8]⟩ := by
  decide
theorem test_V123_PLA :
    seen { start [(0x01FD#16, 0x80#8)] [0x68#8] with sp := 0xFC#8 } [] =
      some ⟨[0x80#8, 0x00#8, 0x00#8, 0xFD#8, 0xA4#8], 0x0201#16, some 4, []⟩ := by
  decide
theorem test_V125_PLP :
    seen { start [(0x01FD#16, 0xFF#8)] [0x28#8] with sp := 0xFC#8 } [] =
      some ⟨[0x00#8, 0x00#8, 0x00#8, 0xFD#8, 0xEF#8], 0x0201#16, some 4, []⟩ := by
  decide
theorem test_V127_CLC :
    seen (withP 0x25#8 (start [] [0x18#8])) [] =
      some ⟨[0x00#8, 0x00#8, 0x00#8, 0xFD#8, 0x24#8], 0x0201#16, some 2, []⟩ := by
  decide
theorem test_V128_SEC :
    seen (start [] [0x38#8]) [] =
      some ⟨[0x00#8, 0x00#8, 0x00#8, 0xFD#8, 0x25#8], 0x0201#16, some 2, []⟩ := by
  decide
theorem test_V129_CLI :
    seen (start [] [0x58#8]) [] =
      some ⟨[0x00#8, 0x00#8, 0x00#8, 0xFD#8, 0x20#8], 0x0201#16, some 2, []⟩ := by
  decide
theorem test_V130_SEI :
    seen (withP 0x20#8 (start [] [0x78#8])) [] =
      some ⟨[0x00#8, 0x00#8, 0x00#8, 0xFD#8, 0x24#8], 0x0201#16, some 2, []⟩ := by
  decide
theorem test_V131_CLD :
    seen (withP 0x2C#8 (start [] [0xD8#8])) [] =
      some ⟨[0x00#8, 0x00#8, 0x00#8, 0xFD#8, 0x24#8], 0x0201#16, some 2, []⟩ := by
  decide
theorem test_V132_SED :
    seen (start [] [0xF8#8]) [] =
      some ⟨[0x00#8, 0x00#8, 0x00#8, 0xFD#8, 0x2C#8], 0x0201#16, some 2, []⟩ := by
  decide
theorem test_V133_CLV :
    seen (withP 0x64#8 (start [] [0xB8#8])) [] =
      some ⟨[0x00#8, 0x00#8, 0x00#8, 0xFD#8, 0x24#8], 0x0201#16, some 2, []⟩ := by
  decide
theorem test_V134_NOP :
    seen (start [] [0xEA#8]) [] =
      some ⟨[0x00#8, 0x00#8, 0x00#8, 0xFD#8, 0x24#8], 0x0201#16, some 2, []⟩ := by
  decide
theorem test_V135_BRK :
    seen (start [(0xFFFE#16, 0x00#8), (0xFFFF#16, 0x90#8)] [0x00#8, 0xFF#8]) [0x01FD#16, 0x01FC#16, 0x01FB#16] =
      some ⟨[0x00#8, 0x00#8, 0x00#8, 0xFA#8, 0x24#8], 0x9000#16, some 7, [0x02#8, 0x02#8, 0x34#8]⟩ := by
  decide
theorem test_V136_RTI :
    seen { start [(0x01FB#16, 0x34#8), (0x01FC#16, 0x02#8), (0x01FD#16, 0x03#8)] [0x40#8] with sp := 0xFA#8 } [] =
      some ⟨[0x00#8, 0x00#8, 0x00#8, 0xFD#8, 0x24#8], 0x0302#16, some 6, []⟩ := by
  decide
theorem test_V150_SLO :
    seen { start [(0x0020#16, 0x81#8)] [0x07#8, 0x20#8] with a := 0x01#8 } [0x0020#16] =
      some ⟨[0x03#8, 0x00#8, 0x00#8, 0xFD#8, 0x25#8], 0x0202#16, some 5, [0x02#8]⟩ := by
  decide
theorem test_V151_RLA :
    seen { withP 0x25#8 (start [(0x0020#16, 0x80#8)] [0x27#8, 0x20#8]) with a := 0xFF#8 } [0x0020#16] =
      some ⟨[0x01#8, 0x00#8, 0x00#8, 0xFD#8, 0x25#8], 0x0202#16, some 5, [0x01#8]⟩ := by
  decide
theorem test_V152_SRE :
    seen { start [(0x0020#16, 0x03#8)] [0x47#8, 0x20#8] with a := 0x01#8 } [0x0020#16] =
      some ⟨[0x00#8, 0x00#8, 0x00#8, 0xFD#8, 0x27#8], 0x0202#16, some 5, [0x01#8]⟩ := by
  decide
theorem test_V153_RRA :
    seen { withP 0x25#8 (start [(0x0020#16, 0x02#8)] [0x67#8, 0x20#8]) with a := 0x10#8 } [0x0020#16] =
      some ⟨[0x91#8, 0x00#8, 0x00#8, 0xFD#8, 0xA4#8], 0x0202#16, some 5, [0x81#8]⟩ := by
  decide
theorem test_V154_SAX :
    seen { start [] [0x87#8, 0x20#8] with a := 0xF0#8, x := 0x3C#8 } [0x0020#16] =
      some ⟨[0xF0#8, 0x3C#8, 0x00#8, 0xFD#8, 0x24#8], 0x0202#16, some 3, [0x30#8]⟩ := by
  decide
theorem test_V155_LAX :
    seen (start [(0x0020#16, 0x80#8)] [0xA7#8, 0x20#8]) [] =
      some ⟨[0x80#8, 0x80#8, 0x00#8, 0xFD#8, 0xA4#8], 0x0202#16, some 3, []⟩ := by
  decide
theorem test_V156_DCP :
    seen { start [(0x0020#16, 0x01#8)] [0xC7#8, 0x20#8] with a := 0x00#8 } [0x0020#16] =
      some ⟨[0x00#8, 0x00#8, 0x00#8, 0xFD#8, 0x27#8], 0x0202#16, some 5, [0x00#8]⟩ := by
  decide
theorem test_V157_ISC :
    seen { withP 0x25#8 (start [(0x0020#16, 0xFF#8)] [0xE7#8, 0x20#8]) with a := 0x05#8 } [0x0020#16] =
      some ⟨[0x05#8, 0x00#8, 0x00#8, 0xFD#8, 0x25#8], 0x0202#16, some 5, [0x00#8]⟩ := by
  decide
theorem test_V158_ANC :
    seen { start [] [0x0B#8, 0x80#8] with a := 0xFF#8 } [] =
      some ⟨[0x80#8, 0x00#8, 0x00#8, 0xFD#8, 0xA5#8], 0x0202#16, some 2, []⟩ := by
  decide
theorem test_V159_ALR :
    seen { start [] [0x4B#8, 0x03#8] with a := 0xFF#8 } [] =
      some ⟨[0x01#8, 0x00#8, 0x00#8, 0xFD#8, 0x25#8], 0x0202#16, some 2, []⟩ := by
  decide
theorem test_V160_ARR :
    seen { withP 0x25#8 (start [] [0x6B#8, 0xFF#8]) with a := 0xFF#8 } [] =
      some ⟨[0xFF#8, 0x00#8, 0x00#8, 0xFD#8, 0xA5#8], 0x0202#16, some 2, []⟩ := by
  decide
theorem test_V165_SBX :
    seen { start [] [0xCB#8, 0x10#8] with a := 0xF0#8, x := 0x3F#8 } [] =
      some ⟨[0xF0#8, 0x20#8, 0x00#8, 0xFD#8, 0x25#8], 0x0202#16, some 2, []⟩ := by
  decide
theorem test_V167_USBC :
    seen { withP 0x25#8 (start [] [0xEB#8, 0x01#8]) with a := 0x00#8 } [] =
      some ⟨[0xFF#8, 0x00#8, 0x00#8, 0xFD#8, 0xA4#8], 0x0202#16, some 2, []⟩ := by
  decide
theorem test_V168_LAS :
    seen (start [(0x0300#16, 0xF0#8)] [0xBB#8, 0x00#8, 0x03#8]) [] =
      some ⟨[0xF0#8, 0xF0#8, 0x00#8, 0xF0#8, 0xA4#8], 0x0203#16, some 4, []⟩ := by
  decide
theorem test_V169_SHA :
    seen { start [] [0x9F#8, 0x00#8, 0x12#8] with a := 0xFF#8, x := 0xFF#8, y := 0x10#8 } [0x1210#16] =
      some ⟨[0xFF#8, 0xFF#8, 0x10#8, 0xFD#8, 0x24#8], 0x0203#16, some 5, [0x13#8]⟩ := by
  decide
theorem test_V170_SHA :
    seen { start [] [0x9F#8, 0xF0#8, 0x12#8] with a := 0x05#8, x := 0x07#8, y := 0x20#8 } [0x0110#16] =
      some ⟨[0x05#8, 0x07#8, 0x20#8, 0xFD#8, 0x24#8], 0x0203#16, some 5, [0x01#8]⟩ := by
  decide
theorem test_V171_SHX :
    seen { start [] [0x9E#8, 0x00#8, 0x12#8] with x := 0xFF#8, y := 0x10#8 } [0x1210#16] =
      some ⟨[0x00#8, 0xFF#8, 0x10#8, 0xFD#8, 0x24#8], 0x0203#16, some 5, [0x13#8]⟩ := by
  decide
theorem test_V172_SHY :
    seen { start [] [0x9C#8, 0x00#8, 0x12#8] with y := 0x01#8, x := 0x10#8 } [0x1210#16] =
      some ⟨[0x00#8, 0x10#8, 0x01#8, 0xFD#8, 0x24#8], 0x0203#16, some 5, [0x01#8]⟩ := by
  decide
theorem test_V173_TAS :
    seen { start [] [0x9B#8, 0x00#8, 0x12#8] with a := 0xF3#8, x := 0x3F#8, y := 0x10#8 } [0x1210#16] =
      some ⟨[0xF3#8, 0x3F#8, 0x10#8, 0x33#8, 0x24#8], 0x0203#16, some 5, [0x13#8]⟩ := by
  decide
theorem test_V177_JAM :
    seen (start [] [0x02#8]) [] =
      some ⟨[0x00#8, 0x00#8, 0x00#8, 0xFD#8, 0x24#8], 0x0201#16, some 2, []⟩ := by
  decide
theorem test_V190_IRQ :
    seen { withP 0x20#8 (start [(0xFFFE#16, 0x00#8), (0xFFFF#16, 0x80#8)] [0xEA#8]) with irqPending := true } [0x01FD#16, 0x01FC#16, 0x01FB#16] =
      some ⟨[0x00#8, 0x00#8, 0x00#8, 0xFA#8, 0x24#8], 0x8000#16, some 7, [0x02#8, 0x00#8, 0x20#8]⟩ := by
  decide
theorem test_V192_NMI :
    seen { start [(0xFFFA#16, 0x00#8), (0xFFFB#16, 0x90#8)] [0xEA#8] with nmiPending := true } [0x01FD#16, 0x01FC#16, 0x01FB#16] =
      some ⟨[0x00#8, 0x00#8, 0x00#8, 0xFA#8, 0x24#8], 0x9000#16, some 7, [0x02#8, 0x00#8, 0x24#8]⟩ := by
  decide

/-- V177 and V178: JAM halts the core, and a step of a halted core changes nothing (R573). -/
theorem test_V178_JAM :
    step (start [] [0x02#8]) = .next { start [] [0x02#8] with run := .jammed, pc := 0x0201#16, cycles := 9#64 } ∧
    step { start [] [0x02#8] with run := .jammed } = .next { start [] [0x02#8] with run := .jammed } := by
  exact ⟨rfl, rfl⟩

/-! ## The chip's constants and the decimal adder, as arguments -/

theorem test_V163_ANE : aneValue 0xEE#8 0x00#8 0xFF#8 0xFF#8 = 0xEE#8 := by decide
theorem test_V164_LXA : lxaValue 0xEE#8 0x00#8 0x0F#8 = 0x0E#8 := by decide
theorem test_V41_addDecimal :
    addWith true true 0x99#8 0x01#8 false = { value := 0x00#8, n := true, v := false, z := false, c := true } := by
  decide
theorem test_V43_addDecimal_invalid_digit :
    addWith true true 0x0F#8 0x01#8 false = { value := 0x16#8, n := false, v := false, z := false, c := false } := by
  decide
theorem test_V44_addDecimal_zero :
    addWith true true 0x80#8 0x80#8 false = { value := 0x60#8, n := false, v := true, z := true, c := true } := by
  decide
theorem test_V46_subDecimal :
    subWith true true 0x40#8 0x13#8 true = { value := 0x27#8, n := false, v := false, z := false, c := true } := by
  decide
theorem test_V47_subDecimal_wraps :
    subWith true true 0x00#8 0x01#8 true = { value := 0x99#8, n := true, v := false, z := false, c := false } := by
  decide
theorem test_V162_arrDecimal :
    arrWith true 0xFF#8 0xFF#8 ⟨true, false, true, true, false, false, false⟩ =
      (0x55#8, ⟨true, false, true, true, false, false, true⟩) := by
  decide

/-- R402, from the rule: BMI taken within the page takes 3 cycles. -/
theorem test_BMI_taken :
    seen (withP 0xA4#8 (start [] [0x30#8, 0x10#8])) [] =
      some ⟨[0x00#8, 0x00#8, 0x00#8, 0xFD#8, 0xA4#8], 0x0212#16, some 3, []⟩ := by
  decide

/-! ## The host's fetch word -/

theorem test_withFetchWord_runs :
    step (State.reset.withFetchWord 16 0x80A9) = exec (.ldaImm 0x80#8) (State.reset.withFetchWord 16 0x80A9) ∧
    (seen (State.reset.withFetchWord 16 0x80A9) []).map Seen.regs =
      some [0x80#8, 0x00#8, 0x00#8, 0xFD#8, 0xA4#8] := by
  exact ⟨rfl, by decide⟩

/-- A jam, a pending NMI and an unmasked IRQ do not keep it from running. -/
theorem test_withFetchWord_always_fetches :
    stepKind ({ State.reset with
      run := .jammed, nmiPending := true, irqPending := true, iPoll := false }.withFetchWord 8 0xEA) = .instruction ∧
    fetchInstr ({ State.reset with pc := 0xFFFF#16 }.withFetchWord 24 0x1234AD) = .ldaAbs 0x1234#16 := by
  decide

/-- The reset state is what `reset()` leaves of a power-on with the spec's reference values. -/
theorem test_reset_from_power_on (p : PowerOn) :
    Driver.reset (State.powerOn { p with a := 0x00#8, x := 0x00#8, y := 0x00#8, mem := [], devices := [] }) =
      State.reset :=
  reset_eq_driver_reset _ rfl rfl rfl rfl rfl

/-- The accesses of an indexed read through a pointer, in order (spec/20_memory.md R118). -/
theorem test_accesses_ldaIndY :
    stepAccesses (start [(0x0040#16, 0x00#8), (0x0041#16, 0x13#8)] [0xB1#8, 0x40#8]) =
      [.read 0x0200#16, .read 0x0201#16, .read 0x0040#16, .read 0x0041#16, .read 0x1300#16] := by
  decide

/-- BRK does not read its signature byte (spec/45_stack_flag_system.md R462). -/
theorem test_accesses_brk :
    stepAccesses (start [] [0x00#8, 0xFF#8]) =
      [.read 0x0200#16, .write 0x01FD#16 0x02#8, .write 0x01FC#16 0x02#8, .write 0x01FB#16 0x34#8,
        .read 0xFFFE#16, .read 0xFFFF#16] := by
  decide

/-- A device with an effect of its reads: a counter that reads as the reads made so far. A write puts its byte in
front. -/
def counter : Device where
  read _ b := (BitVec.ofNat 8 (b.devices.headD 0), { b with devices := [b.devices.headD 0 + 1] })
  write _ v b := { b with devices := v.toNat :: b.devices }

/-- A bus with unmapped addresses 0x2000 to 0x2007 and the counter at 0x4000. -/
def ioBus : Bus where
  route a :=
    if 0x2000#16 ≤ a && a ≤ 0x2007#16 then none else if a = 0x4000#16 then some counter else some ram

/-- Reads at both ends of an unmapped range are open bus, writes are ignored; beside it is RAM (spec/20_memory.md
R103, R104). -/
theorem test_unmapped (b : BusState) :
    busRead ioBus b 0x2000#16 = (Config.openBus b 0x2000#16, b) ∧
    busRead ioBus b 0x2007#16 = (Config.openBus b 0x2007#16, b) ∧
    busWrite ioBus b 0x2007#16 0x55#8 = b ∧ busRead ioBus b 0x1FFF#16 = (Memory.read b.mem 0x1FFF, b) ∧
    busRead ioBus b 0x2008#16 = (Memory.read b.mem 0x2008, b) :=
  ⟨rfl, rfl, rfl, rfl, rfl⟩

/-- LDA 0x4000 reads the device once, and the read is counted (spec/20_memory.md R105). -/
theorem test_device_load :
    let s : State := { State.reset with devices := [5] }
    (execOn ioBus (.ldaAbs 0x4000#16) s).a = 0x05#8 ∧ (execOn ioBus (.ldaAbs 0x4000#16) s).devices = [6] := by
  decide

/-- INC 0x4000 reads the device once and then writes it once (spec/40_execution.md R218). -/
theorem test_device_modify :
    (execOn ioBus (.incAbs 0x4000#16) { State.reset with devices := [5] }).devices = [6, 6] := by
  decide

/-- A fetch from a device is a read of it: the counter's 0 is a BRK. -/
theorem test_device_fetch :
    (fetchOn ioBus { State.reset with pc := 0x4000#16 }).1 = .brk ∧
    (fetchOn ioBus { State.reset with pc := 0x4000#16 }).2.devices = [1] := by
  decide

/-- Writing what an unlisted address reads as removes the entry. -/
theorem test_memory_canonical :
    ((State.reset.write 0x0300#16 0x55#8).write 0x0200#16 0x66#8).mem = [(0x200, 0x66#8), (0x300, 0x55#8)] ∧
    ((State.reset.write 0x0300#16 0x55#8).write 0x0300#16 0x00#8).mem = [] := by
  decide

/-- The byte of a hardware interrupt has bit 4 at 0, BRK's at 1, and bit 5 is 1 in both (spec/10_state.md R57). -/
theorem test_packed_status :
    (⟨true, false, true, false, false, false, true⟩ : Flags).pack false = 0xA5#8 ∧
    (⟨true, false, true, false, false, false, true⟩ : Flags).pack true = 0xB5#8 ∧
    Driver.statusByte State.reset = 0x24#8 := by
  decide

/-! ## Witnesses: states and operands that meet the hypotheses of each statement -/

/-- Every instruction answers a next state, from reset too. -/
theorem witness_exec (i : Instr) : ∃ t, exec i State.reset = .next t := ⟨_, exec_eq i State.reset⟩

theorem witness_JammedStepChangesNothing :
    ({ State.reset with run := .jammed } : State).resetDone = true ∧
    ({ State.reset with run := .jammed } : State).run = .jammed := by
  decide

/-- The NMI clause, alone and with an IRQ pending too, and the IRQ clause. -/
theorem witness_PendingInterruptIsEntered :
    stepKind { State.reset with nmiPending := true } = .nmi ∧
    stepKind { State.reset with nmiPending := true, irqPending := true, iPoll := false } = .nmi ∧
    stepKind { State.reset with irqPending := true, iPoll := false } = .irq := by
  decide

theorem witness_MaskedIrqStaysPending :
    let s : State := { State.reset with irqPending := true }
    s.resetDone = true ∧ s.run = .running ∧ s.nmiPending = false ∧ s.irqPending = true ∧ s.iPoll = true := by
  decide

/-- Both ways that no interrupt is taken: none pending, and a masked IRQ. -/
theorem witness_StepRunsTheInstructionAtPC :
    let s := start [] [0xD0#8, 0x80#8]
    s.resetDone = true ∧ s.run = .running ∧ s.nmiPending = false ∧ s.irqPending = false ∧ s.iPoll = true ∧
    ({ s with irqPending := true } : State).iPoll = true ∧
    decode [s.read s.pc, s.read (s.pc + 1#16), s.read (s.pc + 2#16)] = .instr (.bne (-128)) [0x00#8] ∧
    (Instr.bne (-128)).wellFormed = true := by
  decide

theorem witness_DecodeOfEncodeIsTheInstruction :
    (Instr.bne (-128)).wellFormed = true ∧ (Instr.bne 127).wellFormed = true ∧
    (Instr.lasAbsY 0xFFFF#16).wellFormed = true ∧ Instr.brk.wellFormed = true := by
  decide

theorem witness_EncodeOfDecodeIsTheBytes :
    decode [0xBB#8, 0xFF#8, 0xFF#8, 0x00#8] = .instr (.lasAbsY 0xFFFF#16) [0x00#8] ∧
    decode [0x10#8, 0x80#8] = .instr (.bpl (-128)) [] ∧ decode [0x10#8, 0x7F#8] = .instr (.bpl 127) [] := by
  decide

/-- An instruction, an interrupt entry and a halted step, each from a state with the invariant. -/
theorem witness_StepKeepsTheInvariant :
    (start [] [0x8D#8, 0x00#8, 0x03#8]).mem.wf ∧ (start [] [0x8D#8, 0x00#8, 0x03#8]).flags.b = false ∧
    stepKind (start [] [0x8D#8, 0x00#8, 0x03#8]) = .instruction ∧
    State.reset.mem.wf ∧ stepKind { State.reset with nmiPending := true } = .nmi ∧
    stepKind { State.reset with run := .jammed } = .jammed := by
  decide

theorem witness_EveryStepAfterResetCompletes : State.reset.resetDone = true := rfl

/-- A step that answers a next state, of each kind that does. -/
theorem witness_StepReturnsAndCountsItsCycles :
    (∃ t, step State.reset = .next t) ∧ (∃ t, step { State.reset with nmiPending := true } = .next t) ∧
    (∃ t, step { State.reset with irqPending := true, iPoll := false } = .next t) ∧
    (∃ t, step { State.reset with run := .jammed } = .next t) :=
  ⟨⟨_, show exec (fetchInstr State.reset) State.reset = _ from exec_eq _ _⟩,
    ⟨serviceNmi { State.reset with nmiPending := true }, rfl⟩,
    ⟨serviceIrq { State.reset with irqPending := true, iPoll := false }, rfl⟩, ⟨_, rfl⟩⟩

/-- For each flag and register an instruction outside its writers, and one inside. -/
theorem witness_frames :
    (writtenFlags .LDA).c = false ∧ (writtenFlags .CLC).z = false ∧ (writtenFlags .ADC).i = false ∧
    (writtenFlags .ADC).d = false ∧ (writtenFlags .BRK).b = false ∧ (writtenFlags .LDA).v = false ∧
    (writtenFlags .CLV).n = false ∧
    writesA .LDX = false ∧ writesX .LDA = false ∧ writesY .LDA = false ∧ writesSP .LDA = false ∧
    writesPC .LDA = false ∧ storesToMemory .aslAcc = false ∧ storesToMemory (.cmpZp 0x00#8) = false := by
  decide

/-- The three delayed opcodes, and one that is not. -/
theorem witness_PollFollowsTheMaskOneStepLate :
    Instr.cli.opcode = 0x58#8 ∧ Instr.sei.opcode = 0x78#8 ∧ Instr.plp.opcode = 0x28#8 ∧ Instr.rti.opcode = 0x40#8 := by
  decide

/-- An instruction of each access class, in each of its shapes. -/
theorem witness_AccessClassesFixTheDataAccesses :
    (Instr.ldaImm 0x00#8).mnemonic = .LDA ∧ (Instr.nopZp04 0x00#8).mnemonic = .NOP ∧
    (Instr.nopZp04 0x00#8).operand ≠ .implied ∧ Instr.nop.operand = .implied ∧
    (Instr.saxZp 0x00#8).mnemonic = .SAX ∧ (Instr.tasAbsY 0x0000#16).mnemonic = .TAS ∧
    Instr.aslAcc.mnemonic = .ASL ∧ (Instr.iscZp 0x00#8).mnemonic = .ISC ∧ Instr.tax.mnemonic = .TAX ∧
    Instr.pha.mnemonic = .PHA ∧ Instr.php.mnemonic = .PHP ∧ Instr.pla.mnemonic = .PLA ∧ Instr.plp.mnemonic = .PLP ∧
    (Instr.jsr 0x0000#16).mnemonic = .JSR ∧ Instr.rts.mnemonic = .RTS ∧ Instr.rti.mnemonic = .RTI ∧
    Instr.brk.mnemonic = .BRK ∧ (Instr.jmpInd 0x0000#16).mnemonic = .JMP ∧ (Instr.bne 0).mnemonic = .BNE := by
  decide

/-- Two memories that differ, and agree at the one byte that LDA 0x10 reads. -/
theorem witness_AccessesAreTheWholeUseOfMemory :
    readAddrs (executionAccesses (.ldaZp 0x10#8) (start [(0x0010#16, 0x55#8)] [0xA5#8, 0x10#8])) = [0x0010#16] ∧
    ({ start [(0x0010#16, 0x55#8)] [0xA5#8, 0x10#8] with mem := [(0x10, 0x55#8)] } : State).read 0x0010#16 =
      (start [(0x0010#16, 0x55#8)] [0xA5#8, 0x10#8]).read 0x0010#16 := by
  decide

/-- The clauses on the recording bus: a step and an execution that answer, and what the bus writes down of STA
0x10 with A = 0, the last access first: the write, then the two fetches. -/
theorem witness_recorder :
    (∃ t, exec (.staZp 0x10#8) State.reset = .next t) ∧ (∃ t, step State.reset = .next t) ∧
    (execOn recorder (.staZp 0x10#8) (fetchOn recorder (start [] [0x85#8, 0x10#8])).2).devices =
      [65536 + 256 * 0x0010, 0x0201, 0x0200] ∧
    (Access.read 0x0010#16).code = (Access.read 0x0010#16).code :=
  ⟨⟨_, exec_eq _ _⟩, ⟨_, step_eq_stepOn _⟩, by decide, rfl⟩

/-- An opcode at PC of each of the 13 modes. -/
theorem witness_modes :
    [0xEA#8, 0x0A#8, 0xA9#8, 0xA5#8, 0xB5#8, 0xB6#8, 0xD0#8, 0xAD#8, 0xBD#8, 0xB9#8, 0x6C#8, 0xA1#8, 0xB1#8].map
        (fun opcode => (descriptor ((start [] [opcode]).read (start [] [opcode]).pc)).mode) =
      [.implied, .accumulator, .immediate, .zeropage, .zeropageX, .zeropageY, .relative, .absolute, .absoluteX,
        .absoluteY, .indirect, .indirectX, .indirectY] := by
  decide

/-- An unmapped address at each end of a range, a device, and two addresses of RAM. -/
theorem witness_UnmappedAddressesReadOpenBusAndIgnoreWrites :
    ioBus.route 0x2000#16 = none ∧ ioBus.route 0x2007#16 = none ∧ ioBus.route 0x4000#16 = some counter ∧
    ioBus.route 0x1FFF#16 = some ram ∧ ioBus.route 0x2008#16 = some ram :=
  ⟨rfl, rfl, rfl, rfl, rfl⟩

/-- Digits at the ends of their range; and, for the second clause, each of its two cases. -/
theorem witness_DecimalArithmeticOnDigits :
    addWith true true 0x99#8 0x99#8 true = { addDecimal 0x99#8 0x99#8 true with value := 0x99#8 } ∧
    subWith true true 0x00#8 0x99#8 false = { subDecimal 0x00#8 0x99#8 false with value := 0x00#8 } ∧
    addWith true false 0x99#8 0x01#8 false = addBinary 0x99#8 0x01#8 false ∧
    addWith false true 0x99#8 0x01#8 false = addBinary 0x99#8 0x01#8 false := by
  decide

/-- The premise of the decimal clause of ARR: D is 1. -/
theorem witness_ArrRotatesWithItsOwnFlags :
    (⟨true, false, true, true, false, false, false⟩ : Flags).d = true := rfl

/-- An instruction of each mnemonic that a statement names. -/
theorem witness_mnemonics :
    (Instr.ldaImm 0x00#8).mnemonic = .LDA ∧ (Instr.ldxImm 0x00#8).mnemonic = .LDX ∧
    (Instr.ldyImm 0x00#8).mnemonic = .LDY ∧ (Instr.laxZp 0x00#8).mnemonic = .LAX ∧
    (Instr.staZp 0x00#8).mnemonic = .STA ∧ (Instr.stxZp 0x00#8).mnemonic = .STX ∧
    (Instr.styZp 0x00#8).mnemonic = .STY ∧ (Instr.saxZp 0x00#8).mnemonic = .SAX ∧
    (Instr.adcImm 0x00#8).mnemonic = .ADC ∧ (Instr.sbcImm 0x00#8).mnemonic = .SBC ∧
    (Instr.usbcImm 0x00#8).mnemonic = .USBC ∧ (Instr.andImm 0x00#8).mnemonic = .AND ∧
    (Instr.oraImm 0x00#8).mnemonic = .ORA ∧ (Instr.eorImm 0x00#8).mnemonic = .EOR ∧
    (Instr.bitZp 0x00#8).mnemonic = .BIT ∧ (Instr.cmpImm 0x00#8).mnemonic = .CMP ∧
    (Instr.cpxImm 0x00#8).mnemonic = .CPX ∧ (Instr.cpyImm 0x00#8).mnemonic = .CPY ∧
    (Instr.incZp 0x00#8).mnemonic = .INC ∧ (Instr.decZp 0x00#8).mnemonic = .DEC := by
  decide

/-- The same for the shifts, the NOPs and the undocumented opcodes. -/
theorem witness_mnemonics_undocumented :
    (Instr.aslZp 0x00#8).mnemonic = .ASL ∧ (Instr.aslZp 0x00#8).operand ≠ .accumulator ∧
    (Instr.lsrZp 0x00#8).mnemonic = .LSR ∧ (Instr.rolZp 0x00#8).mnemonic = .ROL ∧
    (Instr.rorZp 0x00#8).mnemonic = .ROR ∧
    Instr.nop.mnemonic = .NOP ∧ (Instr.nopAbs 0x0000#16).mnemonic = .NOP ∧ Instr.jam02.mnemonic = .JAM ∧
    (Instr.sloZp 0x00#8).mnemonic = .SLO ∧ (Instr.rlaZp 0x00#8).mnemonic = .RLA ∧
    (Instr.sreZp 0x00#8).mnemonic = .SRE ∧ (Instr.rraZp 0x00#8).mnemonic = .RRA ∧
    (Instr.iscZp 0x00#8).mnemonic = .ISC ∧ (Instr.dcpZp 0x00#8).mnemonic = .DCP ∧
    (Instr.ancImm0B 0x00#8).mnemonic = .ANC ∧ (Instr.ancImm2B 0x00#8).mnemonic = .ANC := by
  decide

/-- The four unstable stores with their source, without and with a page crossing. -/
theorem witness_UnstableStoresFollowTheCommonRule :
    (Instr.shaAbsY 0x12F0#16).mnemonic = .SHA ∧ (Instr.shaIndY 0x00#8).mnemonic = .SHA ∧
    (Instr.shxAbsY 0x1200#16).mnemonic = .SHX ∧ (Instr.shyAbsX 0x1200#16).mnemonic = .SHY ∧
    (Instr.tasAbsY 0x1200#16).mnemonic = .TAS ∧
    (resolve (Instr.shaAbsY 0x12F0#16).operand { State.reset with y := 0x20#8 }).crossed = true ∧
    (resolve (Instr.shaAbsY 0x1200#16).operand { State.reset with y := 0x20#8 }).crossed = false := by
  decide

/-- JSR completes, and the state it leaves is itself one that leaves SP and the pushed bytes alone. -/
theorem witness_CallThenReturnComesBack :
    ∃ t, exec (.jsr 0x0700#16) State.reset = .next t ∧ t.sp = 0xFB#8 ∧ t.read 0x01FC#16 = 0x02#8 :=
  ⟨_, exec_eq _ _, by decide, by decide⟩

/-- An NMI entry, an IRQ entry and a BRK, each with the stored B at 0. -/
theorem witness_EntryThenReturnRestores :
    State.reset.flags.b = false ∧
    (∃ e, step { State.reset with nmiPending := true } = .next e) ∧
    stepKind { State.reset with nmiPending := true } = .nmi ∧
    (∃ e, step { State.reset with irqPending := true, iPoll := false } = .next e) ∧
    stepKind { State.reset with irqPending := true, iPoll := false } = .irq ∧
    (∃ e, exec .brk State.reset = .next e) :=
  ⟨rfl, ⟨serviceNmi { State.reset with nmiPending := true }, rfl⟩, by decide,
    ⟨serviceIrq { State.reset with irqPending := true, iPoll := false }, rfl⟩, by decide, ⟨_, exec_eq _ _⟩⟩

/-- A = 0xFF, for the clause on ANE and LXA. -/
theorem witness_UnstableImmediatesUseTheChipsConstant : ({ State.reset with a := 0xFF#8 } : State).a = 0xFF#8 := rfl

end Sys2Proof.Tests
end

section
/-! The bus's two operations by what an address is routed to, and absolute-mode instructions over any bus. -/

namespace Sys2Proof.Machine

/-! ## A transaction, by the device it is routed to (spec/20_memory.md R101 to R105) -/

section Transactions

variable {bus : Bus} {a : Addr} (b : BusState) (v : Byte)

theorem busRead_unmapped (h : bus.route a = none) : busRead bus b a = (Config.openBus b a, b) := by
  simp only [busRead, h]

theorem busWrite_unmapped (h : bus.route a = none) : busWrite bus b a v = b := by
  simp only [busWrite, h]

theorem busRead_mapped {device : Device} (h : bus.route a = some device) :
    busRead bus b a = device.read a b := by
  simp only [busRead, h]

theorem busWrite_mapped {device : Device} (h : bus.route a = some device) :
    busWrite bus b a v = device.write a v b := by
  simp only [busWrite, h]

/-- RAM's contract: a read after a write, at the same address and elsewhere (R102). -/
theorem ram_read_write (p q : Addr) :
    (ram.read q (ram.write p v b)).1 = if q = p then v else (ram.read q b).1 := by
  simp only [ram, Memory.read_write, BitVec.toNat_inj]

theorem State.readOn_mapped (s : State) {device : Device} (h : bus.route a = some device) :
    s.readOn bus a = ((device.read a s.bus).1, s.withBus (device.read a s.bus).2) := by
  simp only [State.readOn, busRead_mapped s.bus h]

theorem State.writeOn_mapped (s : State) {device : Device} (h : bus.route a = some device) :
    s.writeOn bus a v = s.withBus (device.write a v s.bus) := by
  simp only [State.writeOn, busWrite_mapped s.bus v h]

end Transactions

/-! ## Absolute-mode instructions over any bus (spec/40_execution.md R200, R212, R218)

An absolute operand makes no pointer read and crosses no page: the effect alone uses the bus. -/

section Absolute

variable (bus : Bus) (a : Addr) (s : State)

theorem execOn_ldaAbs : execOn bus (.ldaAbs a) s =
    finish 0xAD#8 s.flags.i false 0
      (loadA ((s.advance 3).readOn bus a).1 ((s.advance 3).readOn bus a).2) := rfl

theorem execOn_staAbs : execOn bus (.staAbs a) s =
    finish 0x8D#8 s.flags.i false 0 ((s.advance 3).writeOn bus a s.a) := rfl

theorem execOn_incAbs : execOn bus (.incAbs a) s =
    finish 0xEE#8 s.flags.i false 0
      ({ ((s.advance 3).readOn bus a).2 with
          flags := s.flags.setNZ (((s.advance 3).readOn bus a).1 + 1#8) }.writeOn bus a
        (((s.advance 3).readOn bus a).1 + 1#8)) := rfl

end Absolute

/-! ## The statement -/

/-- Settles O27: a transaction is decided by the device it is routed to, the default bus is RAM by definition,
and each absolute-mode instruction is its effect's transactions between the fetches and `finish`. -/
theorem unmappedAddressesReadOpenBusAndIgnoreWrites :
    Obligations.UnmappedAddressesReadOpenBusAndIgnoreWrites := by
  refine ⟨fun bus b a v h => ⟨busRead_unmapped b h, busWrite_unmapped b v h⟩,
    fun bus b a v device h => ⟨busRead_mapped b h, busWrite_mapped b v h⟩, ?ram, fun _ => rfl,
    fun s => ⟨step_eq_stepOn s, rfl⟩, exec_eq_execOn, ?instructions⟩
  case ram =>
    intro bus b p q v hp hq
    rw [busRead_mapped b hq, busWrite_mapped b v hp, busRead_mapped _ hq]
    exact ⟨rfl, rfl, ram_read_write b v p q⟩
  case instructions =>
    intro bus s a device h
    refine ⟨?lda, ?sta, ?inc⟩
    case lda =>
      rw [execOn_ldaAbs, State.readOn_mapped _ h]
      rfl
    case sta =>
      rw [execOn_staAbs, State.writeOn_mapped _ _ h]
      rfl
    case inc =>
      rw [execOn_incAbs, State.readOn_mapped _ h, State.writeOn_mapped _ _ h]
      rfl

end Sys2Proof.Machine
end

section
/-! What an instruction leaves unchanged and what a step can do, and the statements on the whole machine that
follow: frames of the flags, the registers, PC, the latches and the run state, I_poll, and the invariant. -/

namespace Sys2Proof.Machine

/-! ## The frame of an effect (spec/10_state.md R51 to R69)

The written parts of each mnemonic are the lists of Safety: the frame is one equation, which says that the state
after the effect is the state before it, overwritten in these parts only. -/

/-- The mnemonics that write memory in some form (spec/40_execution.md R218). -/
def writesMemory (mn : Mnemonic) : Bool :=
  mn ∈ [.STA, .STX, .STY, .SAX, .SHA, .SHX, .SHY, .TAS, .ASL, .LSR, .ROL, .ROR, .INC, .DEC, .SLO,
    .RLA, .SRE, .RRA, .DCP, .ISC, .PHA, .PHP, .JSR, .BRK]

/-- A form stores when its mnemonic writes memory and it is no shift or rotate of A. -/
theorem storesToMemory_eq (i : Instr) :
    storesToMemory i = (i.operand != .accumulator && writesMemory i.mnemonic) := rfl

/-- `f`, with the flags of the set taken from `g`. -/
def Flags.overwrite (w : FlagSet) (f g : Flags) : Flags where
  c := bif w.c then g.c else f.c
  z := bif w.z then g.z else f.z
  i := bif w.i then g.i else f.i
  d := bif w.d then g.d else f.d
  b := bif w.b then g.b else f.b
  v := bif w.v then g.v else f.v
  n := bif w.n then g.n else f.n

theorem Flags.sameOutside_overwrite (w : FlagSet) (f g : Flags) : Flags.SameOutside w f (f.overwrite w g) := by
  refine ⟨?_, ?_, ?_, ?_, ?_, ?_, ?_⟩ <;> (intro h; simp only [Flags.overwrite, h, cond_false])

/-- `s`, with the parts that the mnemonic may write taken from `t`; the run state is the mnemonic's own, and I_poll
and the cycle counter, which every instruction writes at its end, are `t`'s. -/
def State.overwrite (mn : Mnemonic) (s t : State) : State where
  a := bif writesA mn then t.a else s.a
  x := bif writesX mn then t.x else s.x
  y := bif writesY mn then t.y else s.y
  sp := bif writesSP mn then t.sp else s.sp
  pc := bif writesPC mn then t.pc else s.pc
  flags := s.flags.overwrite (writtenFlags mn) t.flags
  iPoll := t.iPoll
  nmiPending := s.nmiPending
  irqPending := s.irqPending
  run := if mn = .JAM then .jammed else s.run
  cycles := t.cycles
  mem := bif writesMemory mn then t.mem else s.mem
  devices := s.devices
  resetDone := s.resetDone

/-- From `s` to `t` only the parts that the mnemonic may write have changed. -/
def State.WritesOnly (mn : Mnemonic) (s t : State) : Prop := t = s.overwrite mn t

section Frame

variable {mn : Mnemonic} {s t : State}

namespace State.WritesOnly

theorem a (h : s.WritesOnly mn t) (hw : writesA mn = false) : t.a = s.a :=
  (congrArg State.a h).trans (by simp only [State.overwrite, hw, cond_false])

theorem x (h : s.WritesOnly mn t) (hw : writesX mn = false) : t.x = s.x :=
  (congrArg State.x h).trans (by simp only [State.overwrite, hw, cond_false])

theorem y (h : s.WritesOnly mn t) (hw : writesY mn = false) : t.y = s.y :=
  (congrArg State.y h).trans (by simp only [State.overwrite, hw, cond_false])

theorem sp (h : s.WritesOnly mn t) (hw : writesSP mn = false) : t.sp = s.sp :=
  (congrArg State.sp h).trans (by simp only [State.overwrite, hw, cond_false])

theorem pc (h : s.WritesOnly mn t) (hw : writesPC mn = false) : t.pc = s.pc :=
  (congrArg State.pc h).trans (by simp only [State.overwrite, hw, cond_false])

theorem mem (h : s.WritesOnly mn t) (hw : writesMemory mn = false) : t.mem = s.mem :=
  (congrArg State.mem h).trans (by simp only [State.overwrite, hw, cond_false])

theorem nmiPending (h : s.WritesOnly mn t) : t.nmiPending = s.nmiPending := (congrArg State.nmiPending h).trans rfl

theorem irqPending (h : s.WritesOnly mn t) : t.irqPending = s.irqPending := (congrArg State.irqPending h).trans rfl

theorem resetDone (h : s.WritesOnly mn t) : t.resetDone = s.resetDone := (congrArg State.resetDone h).trans rfl

theorem devices (h : s.WritesOnly mn t) : t.devices = s.devices := (congrArg State.devices h).trans rfl

theorem run (h : s.WritesOnly mn t) : t.run = if mn = .JAM then .jammed else s.run :=
  (congrArg State.run h).trans rfl

theorem flags (h : s.WritesOnly mn t) : Flags.SameOutside (writtenFlags mn) s.flags t.flags := by
  rw [congrArg State.flags h]
  exact Flags.sameOutside_overwrite _ _ _

theorem storedB (h : s.WritesOnly mn t) (hw : (writtenFlags mn).b = false) : t.flags.b = s.flags.b :=
  (congrArg (State.flags · |>.b) h).trans (by simp only [State.overwrite, Flags.overwrite, hw, cond_false])

/-- The end of an instruction writes I_poll and the cycle counter alone. -/
theorem finish (h : s.WritesOnly mn t) (opcode : Byte) (iBefore crossed : Bool) (extra : Nat) :
    s.WritesOnly mn (Machine.finish opcode iBefore crossed extra t) := by
  have e := congrArg (fun u : State =>
    { u with
      iPoll := (Machine.finish opcode iBefore crossed extra t).iPoll
      cycles := (Machine.finish opcode iBefore crossed extra t).cycles }) h
  exact e

end State.WritesOnly

end Frame

/-- ARR writes N, V, Z and C, with and without the decimal adder (spec/47_undocumented.md R560). -/
theorem arrWith_flags (decimalEnabled : Bool) (a m : Byte) (f : Flags) :
    (arrWith decimalEnabled a m f).2 = f.overwrite (writtenFlags .ARR) (arrWith decimalEnabled a m f).2 := by
  unfold arrWith
  split <;> rfl

theorem andRotate_writesOnly (m : Byte) (s : State) : s.WritesOnly .ARR (andRotate m s) :=
  congrArg (fun f => ({ andRotate m s with flags := f } : State))
    (arrWith_flags Config.decimalEnabled s.a m s.flags)

/-- A push is one update of SP and memory (spec/20_memory.md R112). -/
theorem State.push_eq (s : State) (v : Byte) :
    s.push v = { s with sp := s.sp - 1#8, mem := s.mem.write (stackAddr s.sp).toNat v } := rfl

theorem State.push16_eq (s : State) (p : Addr) :
    s.push16 p = (s.push (highByte p)).push (lowByte p) := rfl

/-- BRK pushes PC and the flags, and then writes I and PC (spec/45_stack_flag_system.md R462). -/
theorem softwareBreak_writesOnly (s : State) : s.WritesOnly .BRK (softwareBreak Config.bus s) := by
  rw [softwareBreak_default, interruptEntry_eq]
  generalize State.read16 _ irqVector = target
  rw [State.push_eq, State.push16_eq, State.push_eq, State.push_eq]
  rfl

/-- The frame of every effect. -/
theorem effectOf_writesOnly (mn : Mnemonic) (o : Operand) (s : State) : s.WritesOnly mn (effectOf mn o s).1 := by
  unfold effectOf
  generalize resolve o s = r
  cases mn
  case ARR => exact readClass_rel o r s rfl fun m => andRotate_writesOnly m s
  case BRK => exact softwareBreak_writesOnly s
  case LDA | LDX | LDY | ADC | SBC | USBC | AND | ORA | EOR | BIT | CMP | CPX | CPY | LAX | LAS | ANC | ALR | ANE
      | LXA | SBX | NOP =>
    exact readClass_rel (R := State.WritesOnly _) o r s rfl fun _ => rfl
  case ASL | LSR | ROL | ROR =>
    exact shiftClass_rel (R := State.WritesOnly _) o r s rfl (fun _ => rfl) fun _ _ => rfl
  case BPL | BMI | BVC | BVS | BCC | BCS | BNE | BEQ =>
    exact branchEffect_rel (R := State.WritesOnly _) r s rfl fun _ => rfl
  all_goals rfl

/-- The frame of an instruction: besides its written parts only PC moves, past the instruction's bytes. -/
theorem exec_writesOnly {i : Instr} {s t : State} (h : exec i s = .next t) :
    (s.advance i.length).WritesOnly i.mnemonic t := by
  rw [exec_next_iff.mp h]
  exact (effectOf_writesOnly i.mnemonic i.operand (s.advance i.length)).finish _ _ _ _

/-! ## The invariant -/

/-- Every effect keeps the canonical form of memory: the writes are through the bus's write. -/
theorem effectOf_wf (mn : Mnemonic) (o : Operand) (s : State) (h : s.mem.wf) : (effectOf mn o s).1.mem.wf := by
  cases mn
  case STA | STX | STY | SAX | SHA | SHX | SHY | TAS | INC | DEC | SLO | RLA | SRE | RRA | DCP | ISC =>
    exact State.wf_write _ _ _ h
  case ASL | LSR | ROL | ROR =>
    exact shiftClass_rel (R := fun s t => s.mem.wf → t.mem.wf) o _ s id (fun _ => id)
      (fun _ _ => State.wf_write _ _ _) h
  case PHA | PHP => exact State.wf_push _ _ h
  case JSR => exact s.wf_push16 (s.pc - 1#16) h
  case BRK => exact interruptEntry_wf _ _ _ h
  all_goals
    rw [(effectOf_writesOnly _ o s).mem rfl]
    exact h

/-- Every effect leaves the stored B at 0: only PLP and RTI write it, and they write 0 (R64). -/
theorem effectOf_storedB (mn : Mnemonic) (o : Operand) (s : State) (h : s.flags.b = false) :
    (effectOf mn o s).1.flags.b = false := by
  cases mn
  case PLP | RTI => rfl
  all_goals exact ((effectOf_writesOnly _ o s).storedB rfl).trans h

theorem exec_inv {i : Instr} {s t : State} (hs : s.Inv) (h : exec i s = .next t) : t.Inv := by
  obtain ⟨hm, hb⟩ := hs
  rw [exec_next_iff.mp h]
  exact ⟨effectOf_wf _ _ (s.advance i.length) hm, effectOf_storedB _ _ (s.advance i.length) hb⟩

/-- What a step can do: the inversion of `step`. -/
theorem step_next_cases {s t : State} (h : step s = .next t) :
    (stepKind s = .jammed ∧ t = s) ∨ (stepKind s = .nmi ∧ t = serviceNmi s) ∨
    (stepKind s = .irq ∧ t = serviceIrq s) ∨ (stepKind s = .instruction ∧ exec (fetchInstr s) s = .next t) := by
  simp only [step, fetchOn_default] at h
  cases hk : stepKind s <;> simp only [hk] at h
  case beforeReset => cases h
  case jammed => cases h; exact .inl ⟨rfl, rfl⟩
  case nmi => cases h; exact .inr (.inl ⟨rfl, rfl⟩)
  case irq => cases h; exact .inr (.inr (.inl ⟨rfl, rfl⟩))
  case instruction => exact .inr (.inr (.inr ⟨rfl, h⟩))

/-- Settles O13: the reset state lists no byte, and its B is 0 as written. -/
theorem resetHasTheInvariant : Obligations.ResetHasTheInvariant := ⟨by decide, rfl⟩

/-- Settles O14, by the kinds of a step: a jammed step changes nothing, an entry pushes and sets I, and an
instruction is `exec_inv`. -/
theorem stepKeepsTheInvariant : Obligations.StepKeepsTheInvariant := by
  intro s t hs h
  obtain ⟨-, rfl⟩ | ⟨-, rfl⟩ | ⟨-, rfl⟩ | ⟨-, h⟩ := step_next_cases h
  · exact hs
  · exact ⟨serviceNmi_wf s hs.1, by rw [serviceNmi_flags]; exact hs.2⟩
  · exact ⟨serviceIrq_wf s hs.1, by rw [serviceIrq_flags]; exact hs.2⟩
  · exact exec_inv hs h

/-! ## The frames -/

/-- Settles O17, from the frame of an instruction. -/
theorem flagsOutsideTheWrittenSetAreKept : Obligations.FlagsOutsideTheWrittenSetAreKept :=
  fun _ _ _ h => (exec_writesOnly h).flags

/-- Settles O18, from the frame of an instruction. -/
theorem registersAreWrittenOnlyByTheirWriters : Obligations.RegistersAreWrittenOnlyByTheirWriters := by
  intro i s t h
  have frame := exec_writesOnly h
  exact ⟨frame.a, frame.x, frame.y, frame.sp⟩

/-- Settles O19, from the frame of an instruction: the fetches move PC and the effect does not. -/
theorem otherInstructionsGoToTheNext : Obligations.OtherInstructionsGoToTheNext :=
  fun _ _ _ h => (exec_writesOnly h).pc

/-- Settles O22, from the frame of an instruction. -/
theorem instructionsKeepLatchesAndOnlyJamHalts : Obligations.InstructionsKeepLatchesAndOnlyJamHalts := by
  intro i s t h
  have frame := exec_writesOnly h
  exact ⟨frame.nmiPending, frame.irqPending, frame.resetDone, frame.devices, frame.run⟩

/-! ## I_poll (spec/10_state.md R66) -/

theorem delaysMask_iff (opcode : Byte) :
    delaysMask opcode = true ↔ opcode = 0x58#8 ∨ opcode = 0x78#8 ∨ opcode = 0x28#8 := by
  simp only [delaysMask, Bool.or_eq_true, beq_iff_eq]
  tauto

/-- The state with another I_poll. -/
def State.withPoll (s : State) (b : Bool) : State := { s with iPoll := b }

theorem resolve_withPoll (o : Operand) (s : State) (b : Bool) : resolve o (s.withPoll b) = resolve o s := by
  cases o with
  | memory m =>
    cases m with
    | indexed ix => cases ix <;> rfl
    | _ => rfl
  | _ => rfl

/-- The effect does not read I_poll: from states that differ in it alone, it leaves states that differ in it at most,
and takes the same extra cycles. -/
def Effect.IgnoresPoll (effect : Effect) : Prop :=
  ∀ (r : Resolved) (s : State) (b c : Bool),
    (effect Config.bus r (s.withPoll b)).1.withPoll c = (effect Config.bus r s).1.withPoll c ∧
    (effect Config.bus r (s.withPoll b)).2 = (effect Config.bus r s).2

theorem readClass_ignoresPoll {f : Byte → State → State} (o : Operand)
    (hf : ∀ m s b c, (f m (s.withPoll b)).withPoll c = (f m s).withPoll c) : (readClass f o).IgnoresPoll := by
  intro r s b c
  cases o with
  | immediate v => exact ⟨hf v s b c, rfl⟩
  | memory m => exact ⟨hf _ s b c, rfl⟩
  | _ => exact ⟨rfl, rfl⟩

theorem shiftClass_ignoresPoll (compute : Byte → Flags → Byte × Flags) (o : Operand) :
    (shiftClass compute o).IgnoresPoll := by
  intro r s b c
  cases o <;> exact ⟨rfl, rfl⟩

theorem branchEffect_ignoresPoll (cond : Flags → Bool) : (branchEffect cond).IgnoresPoll := by
  intro r s b c
  have flags_withPoll : (s.withPoll b).flags = s.flags := rfl
  cases h : cond s.flags <;> simp only [branchEffect, flags_withPoll, h] <;> exact ⟨rfl, rfl⟩

theorem softwareBreak_ignoresPoll : (stackEffect softwareBreak).IgnoresPoll := by
  intro r s b c
  simp only [stackEffect, softwareBreak_default, interruptEntry_eq, and_true]
  rfl

theorem effectFor_ignoresPoll (mn : Mnemonic) (o : Operand) : (effectFor mn o).IgnoresPoll := by
  cases mn
  case BPL | BMI | BVC | BVS | BCC | BCS | BNE | BEQ => exact branchEffect_ignoresPoll _
  case BRK => exact softwareBreak_ignoresPoll
  case LDA | LDX | LDY | ADC | SBC | USBC | AND | ORA | EOR | BIT | CMP | CPX | CPY | LAX | LAS | ANC | ALR | ARR
      | ANE | LXA | SBX | NOP =>
    exact readClass_ignoresPoll o fun _ _ _ _ => rfl
  case ASL | LSR | ROL | ROR => exact shiftClass_ignoresPoll _ o
  all_goals exact fun _ _ _ _ => ⟨rfl, rfl⟩

/-- `finish` writes I_poll anew. -/
theorem finish_withPoll (opcode : Byte) (iBefore crossed : Bool) (extra : Nat) (s : State) (b : Bool) :
    finish opcode iBefore crossed extra (s.withPoll b) = finish opcode iBefore crossed extra s := rfl

theorem afterInstruction_withPoll (i : Instr) (s : State) (b : Bool) :
    afterInstruction i (s.withPoll b) = afterInstruction i s := by
  have advance_withPoll : (s.withPoll b).advance i.length = (s.advance i.length).withPoll b := rfl
  have flags_withPoll : (s.withPoll b).flags = s.flags := rfl
  obtain ⟨hstate, hextra⟩ := effectFor_ignoresPoll i.mnemonic i.operand
    (resolve i.operand (s.advance i.length)) (s.advance i.length) b true
  simp only [afterInstruction, effectOf, advance_withPoll, flags_withPoll, resolve_withPoll, hextra]
  rw [← finish_withPoll _ _ _ _ _ true, hstate, finish_withPoll]

/-- Settles O21: the end of an instruction writes I_poll, an entry and a reset set it, and no effect reads it. -/
theorem pollFollowsTheMaskOneStepLate : Obligations.PollFollowsTheMaskOneStepLate := by
  refine ⟨?exec, interruptEntry_iPoll, fun _ => rfl, ?unread⟩
  case exec =>
    intro i s t h
    rw [exec_next_iff.mp h]
    simp only [afterInstruction, finish_iPoll, finish_flags, delaysMask_iff]
  case unread =>
    intro i s b
    rw [exec_eq, exec_eq]
    exact congrArg _ (afterInstruction_withPoll i s b)

end Sys2Proof.Machine
end

section
/-! The listed accesses are the ones the core makes, on any bus: from a state with any bus state, on any bus whose
reads give the bytes that the listed sequence gives on RAM, an instruction leaves what it leaves on the default
bus, and the bus's state after the listed accesses, in order (spec/20_memory.md R118, R105). The default bus with
another memory and the recording bus are two instances. -/

namespace Sys2Proof.Machine

/-! ## A sequence of accesses on a bus -/

/-- The bus's state after a sequence of accesses. -/
def busReplay (bus : Bus) : List Access → BusState → BusState
  | [], b => b
  | .read a :: rest, b => busReplay bus rest (busRead bus b a).2
  | .write a v :: rest, b => busReplay bus rest (busWrite bus b a v)

/-- Each read of the sequence gives, on the bus, the byte that it gives in a memory which takes the sequence's
writes. -/
def AnswersAs (bus : Bus) : List Access → Memory → BusState → Prop
  | [], _, _ => True
  | .read a :: rest, m, b => (busRead bus b a).1 = m.read a.toNat ∧ AnswersAs bus rest m (busRead bus b a).2
  | .write a v :: rest, m, b => AnswersAs bus rest (m.write a.toNat v) (busWrite bus b a v)

theorem busReplay_append (bus : Bus) (xs ys : List Access) (b : BusState) :
    busReplay bus (xs ++ ys) b = busReplay bus ys (busReplay bus xs b) := by
  induction xs generalizing b with
  | nil => rfl
  | cons x xs ih => cases x <;> exact ih _

theorem answersAs_append (bus : Bus) (xs ys : List Access) (m : Memory) (b : BusState) :
    AnswersAs bus (xs ++ ys) m b ↔
      AnswersAs bus xs m b ∧ AnswersAs bus ys (replayWrites xs m) (busReplay bus xs b) := by
  induction xs generalizing m b with
  | nil => exact (iff_of_eq (true_and _)).symm
  | cons x xs ih =>
    cases x with
    | read a => exact (and_congr_right fun _ => ih _ _).trans and_assoc.symm
    | write a v => exact ih _ _

/-- RAM takes the writes of a sequence, and a read leaves no trace there (R102, R105). -/
theorem busReplay_default (xs : List Access) (b : BusState) :
    busReplay Config.bus xs b = { b with mem := replayWrites xs b.mem } := by
  induction xs generalizing b with
  | nil => rfl
  | cons x xs ih => cases x <;> exact ih _

/-- A memory answers as another one when they agree at the addresses that are read: both take the same writes. -/
theorem answersAs_default (xs : List Access) (m : Memory) (b : BusState)
    (h : ∀ a ∈ readAddrs xs, Memory.read b.mem a.toNat = m.read a.toNat) : AnswersAs Config.bus xs m b := by
  induction xs generalizing m b with
  | nil => trivial
  | cons x xs ih =>
    cases x with
    | read a =>
      exact ⟨h a List.mem_cons_self, ih m b fun p hp => h p (List.mem_cons_of_mem _ hp)⟩
    | write a v =>
      refine ih _ _ fun p hp => ?_
      show (Memory.write b.mem a.toNat v).read p.toNat = (m.write a.toNat v).read p.toNat
      rw [Memory.read_write, Memory.read_write, h p hp]

/-- The recording bus takes the writes and writes down the sequence. -/
theorem busReplay_recorder (xs : List Access) (b : BusState) :
    busReplay recorder xs b = { mem := replayWrites xs b.mem, devices := recorded xs b.devices } := by
  induction xs generalizing b with
  | nil => rfl
  | cons x xs ih =>
    have step_recorded : recorded (x :: xs) b.devices = recorded xs (x.code :: b.devices) :=
      (recorded_append [x] xs b.devices).symm
    rw [step_recorded]
    cases x <;> exact ih _

/-- The recording bus answers as the memory that it holds. -/
theorem answersAs_recorder (xs : List Access) (b : BusState) : AnswersAs recorder xs b.mem b := by
  induction xs generalizing b with
  | nil => trivial
  | cons x xs ih =>
    cases x with
    | read a => exact ⟨rfl, ih { b with devices := (Access.read a).code :: b.devices }⟩
    | write a v =>
      exact ih { mem := Memory.write b.mem a.toNat v, devices := (Access.write a v).code :: b.devices }

/-! ## The shared operations on any bus that answers them (spec/20_memory.md R107 to R113) -/

/-- The pointer reads of a mode write nothing. -/
theorem replayWrites_pointerAccesses (o : Operand) (s : State) (m : Memory) :
    replayWrites (pointerAccesses o s) m = m := by
  cases o with
  | memory mo =>
    cases mo with
    | indexed ix => cases ix <;> rfl
    | _ => rfl
  | _ => rfl

section AnyBus

variable {bus : Bus} {b : BusState}

theorem State.readPairOn_withBus {s : State} {p q : Addr} (h : AnswersAs bus [.read p, .read q] s.mem b) :
    (s.withBus b).readPairOn bus p q =
      (word16 (s.read p) (s.read q), s.withBus (busReplay bus [.read p, .read q] b)) := by
  obtain ⟨hp, hq, -⟩ := h
  exact congrArg (·, s.withBus (busReplay bus [.read p, .read q] b)) (congrArg₂ word16 hp hq)

theorem resolveOn_withBus {o : Operand} {s : State} (h : AnswersAs bus (pointerAccesses o s) s.mem b) :
    resolveOn bus o (s.withBus b) = (resolve o s, s.withBus (busReplay bus (pointerAccesses o s) b)) := by
  cases o with
  | indirect ptr => exact congrArg (fun target => (Resolved.at target.1, target.2)) (State.readPairOn_withBus h)
  | memory mo =>
    cases mo with
    | indirectX zp =>
      exact congrArg (fun pointer => (Resolved.at pointer.1, pointer.2)) (State.readPairOn_withBus h)
    | indexed ix =>
      cases ix with
      | indirectY zp =>
        exact congrArg (fun pointer => (Resolved.indexed pointer.1 s.y, pointer.2)) (State.readPairOn_withBus h)
      | _ => rfl
    | _ => rfl
  | _ => rfl

theorem State.pullOn_withBus {s : State} (h : AnswersAs bus (pullAccesses s.sp 1) s.mem b) :
    (s.withBus b).pullOn bus = (s.pulled, s.afterPull.withBus (busReplay bus (pullAccesses s.sp 1) b)) := by
  obtain ⟨hpull, -⟩ := h
  exact congrArg (·, s.afterPull.withBus (busReplay bus (pullAccesses s.sp 1) b)) hpull

theorem State.pull16On_withBus {s : State} (h : AnswersAs bus (pullAccesses s.sp 2) s.mem b) :
    (s.withBus b).pull16On bus =
      (s.pulled16, s.afterPull.afterPull.withBus (busReplay bus (pullAccesses s.sp 2) b)) := by
  obtain ⟨hlow, hhigh, -⟩ := h
  exact congrArg (·, s.afterPull.afterPull.withBus (busReplay bus (pullAccesses s.sp 2) b))
    (congrArg₂ word16 hlow hhigh)

theorem State.pushes_withBus (s : State) (target : Addr) (v : Byte) :
    ((s.withBus b).push16On bus target).pushOn bus v = ((s.push16 target).push v).withBus
      (busReplay bus (pushAccesses s.sp [highByte target, lowByte target, v]) b) := rfl

/-- The entry reads its vector after its pushes: from the memory that has taken them (spec/60_exceptions.md R605). -/
theorem interruptEntryOn_withBus {breakBit : Bool} {vector : Addr} {s : State}
    (h : AnswersAs bus (entryAccesses breakBit vector s) s.mem b) :
    interruptEntryOn bus breakBit vector (s.withBus b) =
      (interruptEntry breakBit vector s).withBus (busReplay bus (entryAccesses breakBit vector s) b) := by
  obtain ⟨-, hvector⟩ := (answersAs_append ..).mp h
  have target := State.readPairOn_withBus (s := (s.push16 s.pc).push (s.flags.pack breakBit)) hvector
  rw [← State.pushes_withBus] at target
  rw [interruptEntry_eq, entryAccesses, busReplay_append]
  exact congrArg (fun t : Addr × State =>
    { t.2 with flags := { s.flags with i := true }, iPoll := true, pc := t.1 }) target

end AnyBus

/-! ## The effects of the access classes (spec/40_execution.md R218) -/

/-- The accesses are all that the effect does with a bus: from the Addressing Mode Result `r` and `s`, on a bus that
answers them as `s`'s memory does, it leaves what it leaves on the default bus, and the bus's state after them. -/
def Effect.Makes (effect : Effect) (r : Resolved) (s : State) (accesses : List Access) : Prop :=
  ∀ (bus : Bus) (b : BusState), AnswersAs bus accesses s.mem b →
    effect bus r (s.withBus b) =
      ((effect Config.bus r s).1.withBus (busReplay bus accesses b), (effect Config.bus r s).2)

/-- A function of the state that neither reads nor writes the bus's part. -/
def IgnoresBus (f : State → State) : Prop := ∀ (s : State) (b : BusState), f (s.withBus b) = (f s).withBus b

section Classes

variable (o : Operand) (r : Resolved) (s : State)

theorem plainEffect_makes {f : State → State} (hf : IgnoresBus f) : (plainEffect f).Makes r s [] :=
  fun _ b _ => congrArg (·, 0) (hf s b)

theorem readEffect_makes {f : Byte → State → State} (hf : ∀ m, IgnoresBus (f m)) :
    (readEffect f).Makes r s [.read r.addr] := by
  intro bus b ⟨hread, _⟩
  show (f (busRead bus b r.addr).1 (s.withBus (busRead bus b r.addr).2), 0) = _
  rw [hread, hf]
  rfl

theorem storeEffect_makes {src : State → Byte} (hsrc : ∀ b, src (s.withBus b) = src s) :
    (storeEffect src).Makes r s [.write r.addr (src s)] := by
  intro bus b _
  show (s.withBus (busWrite bus b r.addr (src (s.withBus b))), 0) = _
  rw [hsrc]
  rfl

theorem rmwEffect_makes (compute : Byte → Flags → Byte × Flags) {after : Byte → State → State}
    (hafter : ∀ m, IgnoresBus (after m)) :
    (rmwEffect compute after).Makes r s
      [.read r.addr, .write r.addr (compute (s.read r.addr) s.flags).1] := by
  intro bus b ⟨hread, _⟩
  show (after (compute (busRead bus b r.addr).1 s.flags).1
    (State.withBus { s with flags := (compute (busRead bus b r.addr).1 s.flags).2 }
      (busWrite bus (busRead bus b r.addr).2 r.addr (compute (busRead bus b r.addr).1 s.flags).1)), 0) = _
  rw [hread, rmwEffect_default]
  simp only [hafter _ _ _, State.write, State.writeOn]
  rfl

theorem unstableEffect_makes {before : State → State} {src : State → Byte} (hbefore : IgnoresBus before)
    (hsrc : ∀ s b, src (s.withBus b) = src s) :
    (unstableEffect before src).Makes r s
      [.write (unstableAddr (src (before s)) r) (unstableValue (src (before s)) r)] := by
  intro bus b _
  simp only [unstableEffect, hbefore s b, hsrc]
  rfl

theorem branchEffect_makes (cond : Flags → Bool) : (branchEffect cond).Makes r s [] := by
  intro bus b _
  have flags_withBus : (s.withBus b).flags = s.flags := rfl
  cases h : cond s.flags <;> simp only [branchEffect, flags_withBus, h] <;> rfl

theorem readClass_makes {f : Byte → State → State} (hf : ∀ m, IgnoresBus (f m)) :
    (readClass f o).Makes (resolve o s) s (readAt o s) := by
  cases o with
  | immediate v => exact plainEffect_makes _ s (hf v)
  | memory m => exact readEffect_makes _ s hf
  | _ => exact plainEffect_makes _ s fun _ _ => rfl

theorem shiftClass_makes (compute : Byte → Flags → Byte × Flags) :
    (shiftClass compute o).Makes (resolve o s) s (modifyAt o s compute) := by
  cases o with
  | memory m => exact rmwEffect_makes _ s compute fun _ _ _ => rfl
  | _ => exact plainEffect_makes _ s fun _ _ => rfl

/-! ## The pushes, pulls and vector reads of the control class (R218) -/

theorem pullA_makes : (stackEffect pullA).Makes r s (pullAccesses s.sp 1) :=
  fun _ _ h => congrArg (fun m : Byte × State => (loadA m.1 m.2, 0)) (State.pullOn_withBus h)

theorem pullStatus_makes : (stackEffect pullStatus).Makes r s (pullAccesses s.sp 1) :=
  fun _ _ h => congrArg (fun m : Byte × State => ({ m.2 with flags := Flags.unpack m.1 }, 0))
    (State.pullOn_withBus h)

theorem returnFromSubroutine_makes : (stackEffect returnFromSubroutine).Makes r s (pullAccesses s.sp 2) :=
  fun _ _ h => congrArg (fun target : Addr × State => (jumpTo (target.1 + 1#16) target.2, 0))
    (State.pull16On_withBus h)

theorem returnFromInterruptOn_makes : (stackEffect returnFromInterruptOn).Makes r s (pullAccesses s.sp 3) := by
  intro bus b ⟨hstatus, htarget⟩
  have status := State.pullOn_withBus (s := s) ⟨hstatus, trivial⟩
  have target := State.pull16On_withBus (s := s.afterPull) htarget
  simp only [stackEffect, returnFromInterruptOn, status]
  exact congrArg (fun t : Addr × State => ({ t.2 with flags := Flags.unpack s.pulled, pc := t.1 }, 0)) target

theorem softwareBreak_makes :
    (stackEffect softwareBreak).Makes r s (entryAccesses true irqVector (s.advance 1)) :=
  fun _ _ h => congrArg (·, 0) (interruptEntryOn_withBus (s := s.advance 1) h)

end Classes

/-! ## Every instruction -/

/-- The operands of the mnemonics that write a byte of memory in all their forms: one that names a byte of memory,
and for an unstable store an indexed one. -/
def StoreOperand (mn : Mnemonic) (o : Operand) : Prop :=
  match mn with
  | .STA | .STX | .STY | .SAX | .INC | .DEC | .SLO | .RLA | .SRE | .RRA | .DCP | .ISC => ∃ m, o = .memory m
  | .SHA | .SHX | .SHY | .TAS => ∃ ix, o = .memory (.indexed ix)
  | _ => True

theorem storeOperand_of_instr (i : Instr) : StoreOperand i.mnemonic i.operand := by
  cases i <;> first | trivial | exact ⟨_, rfl⟩

/-- The accesses of each mnemonic's effect are the listed ones. -/
theorem effectFor_makes (mn : Mnemonic) (o : Operand) (s : State) (ho : StoreOperand mn o) :
    (effectFor mn o).Makes (resolve o s) s (dataAccesses mn o s) := by
  cases mn
  case LDA | LDX | LDY | ADC | SBC | USBC | AND | ORA | EOR | BIT | CMP | CPX | CPY | LAX | LAS | ANC | ALR | ARR
      | ANE | LXA | SBX | NOP =>
    exact readClass_makes o s fun _ _ _ => rfl
  case STA | STX | STY | SAX =>
    obtain ⟨m, rfl⟩ := ho
    exact storeEffect_makes _ s fun _ => rfl
  case INC | DEC | SLO | RLA | SRE | RRA | DCP | ISC =>
    obtain ⟨m, rfl⟩ := ho
    exact rmwEffect_makes _ s _ fun _ _ _ => rfl
  case SHA | SHX | SHY | TAS =>
    obtain ⟨ix, rfl⟩ := ho
    exact unstableEffect_makes _ s (fun _ _ => rfl) fun _ _ => rfl
  case ASL | LSR | ROL | ROR => exact shiftClass_makes o s _
  case BPL | BMI | BVC | BVS | BCC | BCS | BNE | BEQ =>
    simp only [effectFor]
    exact branchEffect_makes _ s _
  case PLA => exact pullA_makes _ s
  case PLP => exact pullStatus_makes _ s
  case RTS => exact returnFromSubroutine_makes _ s
  case RTI => exact returnFromInterruptOn_makes _ s
  case BRK => exact softwareBreak_makes _ s
  case JMP | JSR | PHA | PHP => exact fun _ _ _ => rfl
  all_goals exact plainEffect_makes _ s fun _ _ => rfl

/-- The instruction on any bus that answers its accesses as its state's memory does (R118). -/
theorem execOn_withBus {bus : Bus} {i : Instr} {s : State} {b : BusState}
    (h : AnswersAs bus (executionAccesses i s) s.mem b) :
    execOn bus i (s.withBus b) = (afterInstruction i s).withBus (busReplay bus (executionAccesses i s) b) := by
  obtain ⟨hpointer, hdata⟩ := (answersAs_append ..).mp h
  rw [replayWrites_pointerAccesses] at hdata
  have located := resolveOn_withBus (s := s.advance i.length) hpointer
  have executed := effectFor_makes _ _ (s.advance i.length) (storeOperand_of_instr i) bus _ hdata
  have fetched : (s.withBus b).advance i.operand.mode.length = (s.advance i.length).withBus b := rfl
  simp only [execOn, instructionOn, fetched, located, executed, executionAccesses, busReplay_append]
  rfl

/-! ## The default bus with another memory, and the recording bus -/

theorem exec_withMem {i : Instr} {s t : State} {m : Memory} (h : exec i s = .next t)
    (agree : ∀ a ∈ readAddrs (executionAccesses i s), ({ s with mem := m } : State).read a = s.read a) :
    exec i { s with mem := m } = .next { t with mem := replayWrites (executionAccesses i s) m } := by
  have devices_kept : t.devices = s.devices := (exec_writesOnly h).devices
  have run := execOn_withBus (answersAs_default (executionAccesses i s) s.mem ⟨m, s.devices⟩ agree)
  rw [busReplay_default, ← exec_next_iff.mp h] at run
  rw [exec_eq_execOn]
  refine congrArg _ (run.trans ?_)
  rw [← devices_kept]
  rfl

/-- An instruction's memory is the old one with its writes made. -/
theorem exec_mem {i : Instr} {s t : State} (h : exec i s = .next t) :
    t.mem = replayWrites (executionAccesses i s) s.mem := by
  have same : exec i s = .next { t with mem := replayWrites (executionAccesses i s) s.mem } :=
    exec_withMem h fun _ _ => rfl
  rw [h] at same
  exact congrArg State.mem (Host.Outcome.next.inj same)

/-- On the recording bus, whatever it has written down before. -/
theorem execOn_recorder_noted {i : Instr} {s t : State} (before : List Access) (h : exec i s = .next t) :
    execOn recorder i (s.noted before) =
      { t with devices := recorded (before ++ executionAccesses i s) s.devices } := by
  have run := execOn_withBus (answersAs_recorder (executionAccesses i s) (s.noted before).bus)
  rw [busReplay_recorder, ← exec_next_iff.mp h] at run
  refine Eq.trans run ?_
  show t.withBus ⟨replayWrites (executionAccesses i s) s.mem,
    recorded (executionAccesses i s) (recorded before s.devices)⟩ = _
  rw [← exec_mem h, recorded_append]
  rfl

/-! ## A step on the recording bus -/

theorem decodeRow_mode (hi lo : Nibble) (byteAt : Nat → Byte) :
    (decodeRow hi lo byteAt).operand.mode = (descriptorRow hi lo).mode := by
  cases hi <;> cases lo <;> rfl

theorem modeLength_eq_succ (mode : Mode) : ∃ n, mode.length = n + 1 := by
  cases mode <;> exact ⟨_, rfl⟩

/-- A run of reads is the first one and the run from the next address. -/
theorem readRun_succ (a : Addr) (n : Nat) :
    (List.range (n + 1)).map (fun k => Access.read (a + BitVec.ofNat 16 k)) =
      .read a :: (List.range n).map (fun k => .read (a + 1#16 + BitVec.ofNat 16 k)) := by
  have next_addr (k : Nat) : a + 1#16 + BitVec.ofNat 16 k = a + BitVec.ofNat 16 (k + 1) := by
    rw [BitVec.add_assoc, BitVec.ofNat_add, BitVec.add_comm (BitVec.ofNat 16 k)]
  simp [List.range_succ_eq_map, Function.comp_def, next_addr]

/-- The fetch on the recording bus: the instruction at PC, and the reads of its bytes (R118). -/
theorem fetchOn_recorder (s : State) :
    fetchOn recorder s = (fetchInstr s, s.noted (fetchAccesses (fetchInstr s) s)) := by
  have length_eq : (fetchInstr s).length = (descriptor (s.read s.pc)).mode.length :=
    congrArg Mode.length (decodeRow_mode _ _ _)
  obtain ⟨n, hn⟩ := modeLength_eq_succ (descriptor (s.read s.pc)).mode
  rw [fetchAccesses, length_eq, hn, readRun_succ]
  simp only [fetchInstr, fetchOn, State.readOn_recorder, State.readOn_default, State.readRunOn_recorder,
    State.readRunOn_noted, State.noted_noted, hn, Nat.add_sub_cancel, List.singleton_append]

theorem serviceNmiOn_recorder (s : State) :
    serviceNmiOn recorder s = (serviceNmi s).noted (entryAccesses false nmiVector s) := by
  simp only [serviceNmiOn, interruptEntryOn_recorder]
  rfl

theorem serviceIrqOn_recorder (s : State) :
    serviceIrqOn recorder s = (serviceIrq s).noted (entryAccesses false irqVector s) := by
  simp only [serviceIrqOn, interruptEntryOn_recorder]
  rfl

/-- A step on the recording bus, by the kinds of a step. -/
theorem stepOn_recorder {s t : State} (h : step s = .next t) :
    stepOn recorder s = .next { t with devices := recorded (stepAccesses s) s.devices } := by
  obtain ⟨hk, rfl⟩ | ⟨hk, rfl⟩ | ⟨hk, rfl⟩ | ⟨hk, h⟩ := step_next_cases h <;>
    simp only [stepOn, stepAccesses, hk]
  · rfl
  · rw [serviceNmiOn_recorder, State.noted, serviceNmi_devices]
  · rw [serviceIrqOn_recorder, State.noted, serviceIrq_devices]
  · rw [fetchOn_recorder, execOn_recorder_noted _ h]
    rfl

/-- The recorder's numbers tell accesses apart. -/
theorem Access.eq_of_code_eq {p q : Access} (h : p.code = q.code) : p = q := by
  cases p <;> cases q <;> simp only [Access.code] at h
  case read.read a b => rw [BitVec.eq_of_toNat_eq h]
  case write.write a v b w =>
    have address : a = b := BitVec.eq_of_toNat_eq (by omega)
    have byte : v = w := BitVec.eq_of_toNat_eq (by omega)
    rw [address, byte]
  all_goals omega

/-- Settles O23: every effect makes its listed accesses on any bus that answers them as RAM does; the default bus with
another memory and the recording bus are two such buses. -/
theorem accessesAreTheWholeUseOfMemory : Obligations.AccessesAreTheWholeUseOfMemory :=
  ⟨fun _ _ _ _ h agree => exec_withMem h agree, fun _ _ _ h => execOn_recorder_noted [] h,
    fun _ _ h => stepOn_recorder h, fun _ _ h => Access.eq_of_code_eq h⟩

end Sys2Proof.Machine
end

section
/-! Encoding and decoding as inverses (spec/30_encoding.md R150 to R154). An instruction is its opcode and its operand:
the row at an opcode gives the instruction that has it, with the operand its mode reads from the bytes 1 and 2. So one
case split over the rows and one over the constructors lead to the operands, where 13 modes are left. -/

namespace Sys2Proof.Machine

/-! ## Bytes -/

theorem ofBits_inj {a3 a2 a1 a0 b3 b2 b1 b0 : Bool} :
    Nibble.ofBits a3 a2 a1 a0 = Nibble.ofBits b3 b2 b1 b0 ↔ a3 = b3 ∧ a2 = b2 ∧ a1 = b1 ∧ a0 = b0 := by
  revert a3 a2 a1 a0 b3 b2 b1 b0
  decide

/-- A byte is its two digits. -/
theorem eq_of_nibbles_eq {a b : Byte} (hhi : highNibble a = highNibble b) (hlo : lowNibble a = lowNibble b) :
    a = b := by
  obtain ⟨h7, h6, h5, h4⟩ := ofBits_inj.mp hhi
  obtain ⟨h3, h2, h1, h0⟩ := ofBits_inj.mp hlo
  refine BitVec.eq_of_getLsbD_eq fun k hk => ?_
  interval_cases k <;> assumption

theorem map_byteOf_range {bytes : List Byte} {n : Nat} (hn : n ≤ bytes.length) :
    (List.range n).map (byteOf bytes) = bytes.take n := by
  refine List.ext_getElem (by simpa using hn) fun k hk _ => ?_
  have k_lt : k < bytes.length := by simp at hk; omega
  simp [byteOf, k_lt]

/-! ## The operand of a mode -/

/-- The operand that a mode takes from an instruction's bytes (R151, R152). -/
def operandAt (byteAt : Nat → Byte) : Mode → Operand
  | .implied => .implied
  | .accumulator => .accumulator
  | .immediate => .immediate (byteAt 1)
  | .relative => .relative (rel8 byteAt)
  | .indirect => .indirect (abs16 byteAt)
  | .zeropage => .memory (.zeropage (byteAt 1))
  | .zeropageX => .memory (.zeropageX (byteAt 1))
  | .zeropageY => .memory (.zeropageY (byteAt 1))
  | .absolute => .memory (.absolute (abs16 byteAt))
  | .indirectX => .memory (.indirectX (byteAt 1))
  | .absoluteX => .memory (.indexed (.absoluteX (abs16 byteAt)))
  | .absoluteY => .memory (.indexed (.absoluteY (abs16 byteAt)))
  | .indirectY => .memory (.indexed (.indirectY (byteAt 1)))

@[simp] theorem operandAt_mode (byteAt : Nat → Byte) (mode : Mode) : (operandAt byteAt mode).mode = mode := by
  cases mode <;> rfl

/-- The byte of a displacement is in the range of `rel8` (R152). -/
theorem operandAt_wellFormed (byteAt : Nat → Byte) (mode : Mode) : (operandAt byteAt mode).wellFormed = true := by
  cases mode
  case relative =>
    have lower : -128 ≤ (byteAt 1).toInt := BitVec.le_toInt _
    have upper : (byteAt 1).toInt < 128 := BitVec.toInt_lt
    simp only [operandAt, Operand.wellFormed, rel8, Bool.and_eq_true, decide_eq_true_eq]
    omega
  all_goals rfl

/-- The operand's bytes are the ones it was taken from. -/
theorem operandAt_bytes (byteAt : Nat → Byte) (mode : Mode) :
    byteAt 0 :: (operandAt byteAt mode).bytes = (List.range mode.length).map byteAt := by
  cases mode <;> simp [operandAt, Operand.bytes, Mode.length, rel8, abs16, List.range_succ]

theorem bytes_length (o : Operand) : o.bytes.length + 1 = o.mode.length := by
  cases o with
  | memory m =>
    cases m with
    | indexed ix => cases ix <;> rfl
    | _ => rfl
  | _ => rfl

/-- A well-formed operand's own bytes give it back, whatever opcode precedes and whatever follows. -/
theorem operandAt_of_bytes {o : Operand} (ho : o.wellFormed = true) (opcode : Byte) (rest : List Byte) :
    operandAt (byteOf (opcode :: (o.bytes ++ rest))) o.mode = o := by
  have address (a : Addr) : abs16 (byteOf (opcode :: lowByte a :: highByte a :: rest)) = a :=
    word16_lowByte_highByte a
  cases o with
  | relative disp =>
    simp only [Operand.wellFormed, Bool.and_eq_true, decide_eq_true_eq] at ho
    obtain ⟨lower, upper⟩ := ho
    exact congrArg Operand.relative (BitVec.toInt_ofInt_eq_self (by decide) lower (Int.lt_add_one_of_le upper))
  | indirect ptr => exact congrArg Operand.indirect (address ptr)
  | memory m =>
    cases m with
    | absolute a => exact congrArg (Operand.memory ∘ .absolute) (address a)
    | indexed ix =>
      cases ix with
      | absoluteX a => exact congrArg (Operand.memory ∘ .indexed ∘ .absoluteX) (address a)
      | absoluteY a => exact congrArg (Operand.memory ∘ .indexed ∘ .absoluteY) (address a)
      | indirectY zp => rfl
    | _ => rfl
  | _ => rfl

/-! ## The rows of the table -/

theorem decodeRow_mnemonic (hi lo : Nibble) (byteAt : Nat → Byte) :
    (decodeRow hi lo byteAt).mnemonic = (descriptorRow hi lo).mnemonic := by
  cases hi <;> cases lo <;> rfl

theorem decodeRow_operand (hi lo : Nibble) (byteAt : Nat → Byte) :
    (decodeRow hi lo byteAt).operand = operandAt byteAt (descriptorRow hi lo).mode := by
  cases hi <;> cases lo <;> rfl

/-- A row's opcode does not depend on the bytes the row is read at. -/
theorem decodeRow_opcode_congr (hi lo : Nibble) (f g : Nat → Byte) :
    (decodeRow hi lo f).opcode = (decodeRow hi lo g).opcode := by
  cases hi <;> cases lo <;> rfl

theorem decodeRow_opcode (hi lo : Nibble) (byteAt : Nat → Byte) :
    highNibble (decodeRow hi lo byteAt).opcode = hi ∧ lowNibble (decodeRow hi lo byteAt).opcode = lo := by
  rw [decodeRow_opcode_congr hi lo byteAt fun _ => 0#8]
  cases hi <;> cases lo <;> decide

/-- The row at an instruction's opcode gives the instruction, on bytes that hold its operand. -/
theorem decodeRow_of_operandAt {i : Instr} {byteAt : Nat → Byte} (h : operandAt byteAt i.operand.mode = i.operand) :
    decodeRow (highNibble i.opcode) (lowNibble i.opcode) byteAt = i := by
  cases i <;> cases h <;> dsimp only [Instr.opcode] <;> rfl

theorem decodeAt_mnemonic (byteAt : Nat → Byte) :
    (decodeAt byteAt).mnemonic = (descriptor (byteAt 0)).mnemonic :=
  decodeRow_mnemonic _ _ byteAt

theorem decodeAt_operand (byteAt : Nat → Byte) :
    (decodeAt byteAt).operand = operandAt byteAt (descriptor (byteAt 0)).mode :=
  decodeRow_operand _ _ byteAt

theorem decodeAt_mode (byteAt : Nat → Byte) : (decodeAt byteAt).operand.mode = (descriptor (byteAt 0)).mode :=
  decodeRow_mode _ _ byteAt

theorem decodeAt_opcode (byteAt : Nat → Byte) : (decodeAt byteAt).opcode = byteAt 0 :=
  have ⟨hhi, hlo⟩ := decodeRow_opcode (highNibble (byteAt 0)) (lowNibble (byteAt 0)) byteAt
  eq_of_nibbles_eq hhi hlo

/-! ## Instructions and lists of bytes -/

theorem encode_length (i : Instr) : (encode i).length = i.length := bytes_length i.operand

/-- An instruction's encoding is the bytes it was decoded from. -/
theorem encode_decodeAt (byteAt : Nat → Byte) :
    encode (decodeAt byteAt) = (List.range (decodeAt byteAt).length).map byteAt := by
  rw [encode, Instr.length, decodeAt_opcode, decodeAt_operand, operandAt_mode, operandAt_bytes]

theorem decodeAt_wellFormed (byteAt : Nat → Byte) : (decodeAt byteAt).wellFormed = true := by
  rw [Instr.wellFormed, decodeAt_operand, operandAt_wellFormed]

/-- What starts with a well-formed instruction's encoding has that instruction as its first. -/
theorem decodeAt_encode_append {i : Instr} (hi : i.wellFormed = true) (rest : List Byte) :
    decodeAt (byteOf (encode i ++ rest)) = i :=
  decodeRow_of_operandAt (operandAt_of_bytes hi i.opcode rest)

/-- A list decodes to the instruction at its start, where it has that instruction's bytes, and to the bytes after. -/
theorem decode_eq_instr_iff {bytes : List Byte} {i : Instr} {rest : List Byte} :
    decode bytes = .instr i rest ↔
      decodeAt (byteOf bytes) = i ∧ i.length ≤ bytes.length ∧ bytes.drop i.length = rest := by
  obtain ⟨n, hn⟩ := modeLength_eq_succ i.operand.mode
  have length_eq : i.length = n + 1 := hn
  cases bytes with
  | nil => simp [decode, length_eq]
  | cons opcode operandBytes =>
    simp only [decode]
    split
    case isTrue fits =>
      simp only [Decoded.instr.injEq]
      constructor
      · rintro ⟨rfl, rfl⟩
        exact ⟨rfl, fits, by simp [length_eq]⟩
      · rintro ⟨rfl, -, rfl⟩
        exact ⟨rfl, by simp [length_eq]⟩
    case isFalse short =>
      refine ⟨nofun, ?_⟩
      rintro ⟨rfl, fits, -⟩
      exact absurd fits short

theorem decode_encode_append {i : Instr} (hi : i.wellFormed = true) (rest : List Byte) :
    decode (encode i ++ rest) = .instr i rest := by
  refine decode_eq_instr_iff.mpr ⟨decodeAt_encode_append hi rest, ?_, ?_⟩
  · simp [encode_length]
  · rw [← encode_length, List.drop_left]

theorem decode_of_encode_eq {i : Instr} {word : List Byte} (hi : i.wellFormed = true) (hw : encode i = word) :
    decode word = .instr i [] := by
  rw [← hw, ← List.append_nil (encode i)]
  exact decode_encode_append hi []

theorem instr_length_le (i : Instr) : i.length ≤ maxInstrBytes := by
  unfold Instr.length
  cases i.operand.mode <;> decide

/-! ## The statements -/

/-- Settles O8: the row at the instruction's opcode gives it, read at its operand's own bytes. -/
theorem decodeOfEncodeIsTheInstruction : Obligations.DecodeOfEncodeIsTheInstruction :=
  fun _ rest hi => decode_encode_append hi rest

/-- Settles O9: no instruction is longer than three bytes, and an encoding is the bytes decoded. -/
theorem encodeOfDecodeIsTheBytes : Obligations.EncodeOfDecodeIsTheBytes := by
  refine ⟨fun opcode b1 b2 rest => ?decodes, fun bytes i rest h => ?encodes⟩
  case decodes =>
    refine ⟨_, _, decode_eq_instr_iff.mpr ⟨rfl, ?_, rfl⟩⟩
    exact (instr_length_le _).trans (by simp [maxInstrBytes])
  case encodes =>
    obtain ⟨rfl, fits, rfl⟩ := decode_eq_instr_iff.mp h
    refine ⟨decodeAt_wellFormed _, ?_⟩
    rw [encode_decodeAt, map_byteOf_range fits, List.take_append_drop]

/-- Settles O10: the decoder's row and the descriptor's row, one pair of digits at a time. -/
theorem descriptorAgreesWithDecoding : Obligations.DescriptorAgreesWithDecoding := fun byteAt =>
  ⟨(decodeAt_mnemonic byteAt).symm, (decodeAt_mode byteAt).symm, decodeAt_opcode byteAt⟩

/-- Settles O11: each word is the encoding of its instruction. -/
theorem wordsOfTheTableDecode : Obligations.WordsOfTheTableDecode :=
  ⟨decode_of_encode_eq rfl rfl, decode_of_encode_eq rfl rfl, decode_of_encode_eq rfl rfl,
    decode_of_encode_eq rfl rfl, decode_of_encode_eq rfl (by decide), decode_of_encode_eq rfl rfl,
    decode_of_encode_eq rfl rfl, decode_of_encode_eq rfl rfl, decode_of_encode_eq rfl rfl⟩

end Sys2Proof.Machine
end

section
/-! What a step runs, returns and counts (spec/40_execution.md R200, R219, R221), the opcodes with the page-cross
penalty (R220), and the instructions that store nothing (R218). -/

namespace Sys2Proof.Machine

/-! ## The step (spec/40_execution.md R200) -/

theorem stepOn_jammed {s : State} (hreset : s.resetDone = true) (hrun : s.run = .jammed) (bus : Bus) :
    stepOn bus s = .next s := by
  simp only [stepOn, stepKind_jammed s hreset hrun]

theorem step_jammed {s : State} (hreset : s.resetDone = true) (hrun : s.run = .jammed) : step s = .next s :=
  (step_eq_stepOn s).trans (stepOn_jammed hreset hrun Config.bus)

/-- A request keeps the two fields that a jammed step is told by (spec/60_exceptions.md R602). -/
theorem requestInterrupt_keeps (kind : InterruptKind) (s : State) :
    (Driver.requestInterrupt kind s).resetDone = s.resetDone ∧ (Driver.requestInterrupt kind s).run = s.run := by
  cases kind <;> exact ⟨rfl, rfl⟩

/-- What a step returns is what it added to the counter, when that is below the counter's size (R221). -/
theorem cyclesConsumed_of_step {s t : State} {n : Nat} (h : step s = .next t)
    (hcycles : t.cycles = s.cycles + BitVec.ofNat 64 n) (hn : n < 2 ^ 64) : Driver.cyclesConsumed s = some n := by
  have added : t.cycles - s.cycles = BitVec.ofNat 64 n := by
    rw [hcycles, BitVec.add_comm, BitVec.add_sub_cancel]
  simp only [Driver.cyclesConsumed, h, added, BitVec.toNat_ofNat, Nat.mod_eq_of_lt hn]

/-- Settles O4: a jammed step is the identity on every bus, and a request leaves it jammed. -/
theorem jammedStepChangesNothing : Obligations.JammedStepChangesNothing := by
  intro s hreset hrun
  refine ⟨step_jammed hreset hrun, ?returned, ?accesses, stepOn_jammed hreset hrun, fun kind => ?request, rfl⟩
  case returned =>
    exact cyclesConsumed_of_step (step_jammed hreset hrun) (BitVec.add_zero _).symm (by decide)
  case accesses => simp only [stepAccesses, stepKind_jammed s hreset hrun]
  case request =>
    obtain ⟨reset_kept, run_kept⟩ := requestInterrupt_keeps kind s
    exact step_jammed (reset_kept.trans hreset) (run_kept.trans hrun)

theorem step_instruction {s : State} (h : stepKind s = .instruction) : step s = exec (fetchInstr s) s := by
  simp only [step, h, fetchOn_default]

theorem mode_length_le (mode : Mode) : mode.length ≤ maxInstrBytes := by
  cases mode <;> decide

/-- The instruction at PC is the one that the three bytes from PC on decode to. -/
theorem fetchInstr_of_decode {s : State} {i : Instr} {rest : List Byte}
    (h : decode [s.read s.pc, s.read (s.pc + 1#16), s.read (s.pc + 2#16)] = .instr i rest) : fetchInstr s = i := by
  obtain ⟨decoded, -, -⟩ := decode_eq_instr_iff.mp h
  have byte_eq : ∀ k < maxInstrBytes, s.read (s.pc + BitVec.ofNat 16 k) =
      byteOf [s.read s.pc, s.read (s.pc + 1#16), s.read (s.pc + 2#16)] k := by
    intro k hk
    match k, hk with
    | 0, _ => exact congrArg s.read (BitVec.add_zero _)
    | 1, _ => rfl
    | 2, _ => rfl
  rw [fetchInstr_eq, ← decoded]
  refine decodeAt_congr _ _ (fun k hk => byte_eq k ?_) (byte_eq 0 (by decide))
  exact Nat.lt_of_lt_of_le hk (mode_length_le _)

/-- Settles O7: the step is the `exec` of the fetched instruction, which is the decoded one. -/
theorem stepRunsTheInstructionAtPC : Obligations.StepRunsTheInstructionAtPC := by
  intro s i rest hreset hrun hnmi hirq hdecode _
  rw [step_instruction (stepKind_instruction s hreset hrun hnmi hirq), fetchInstr_of_decode hdecode]

/-! ## The cycles of a step (R219) -/

theorem descriptorRow_base_le (hi lo : Nibble) : (descriptorRow hi lo).base ≤ 8 := by
  cases hi <;> cases lo <;> decide

theorem instrCycles_le (i : Instr) (s : State) : instrCycles i s ≤ 11 := by
  have base_le : (descriptor i.opcode).base ≤ 8 := descriptorRow_base_le _ _
  unfold instrCycles
  dsimp only
  split_ifs <;> omega

/-- What each kind of step counts, and that it adds that to the counter. -/
theorem step_cycles {s t : State} (h : step s = .next t) :
    ∃ n, stepCycles s = some n ∧ t.cycles = s.cycles + BitVec.ofNat 64 n ∧ n ≤ 11 := by
  obtain ⟨hk, rfl⟩ | ⟨hk, rfl⟩ | ⟨hk, rfl⟩ | ⟨hk, hexec⟩ := step_next_cases h <;> simp only [stepCycles, hk]
  · exact ⟨0, rfl, (BitVec.add_zero _).symm, by decide⟩
  · exact ⟨7, rfl, serviceNmi_cycles s, by decide⟩
  · exact ⟨7, rfl, serviceIrq_cycles s, by decide⟩
  · rw [exec_next_iff.mp hexec]
    exact ⟨_, rfl, afterInstruction_cycles _ s, instrCycles_le _ s⟩

/-- Settles O16: a step's count is at most 11, so the difference of the counters gives it back. -/
theorem stepReturnsAndCountsItsCycles : Obligations.StepReturnsAndCountsItsCycles := by
  intro s t h
  obtain ⟨n, counted, added, le⟩ := step_cycles h
  exact ⟨n, counted, cyclesConsumed_of_step h added (Nat.lt_of_le_of_lt le (by decide)), added⟩

/-! ## The opcodes with the page-cross penalty (R220) -/

/-- A row has the penalty when it is of the read class and its mode has an index over 16 bits. -/
theorem descriptorRow_penalty_iff (hi lo : Nibble) :
    (descriptorRow hi lo).penalty = true ↔
      (descriptorRow hi lo).mnemonic ∈ [.LDA, .LDX, .LDY, .ADC, .SBC, .AND, .ORA, .EOR, .BIT, .CMP, .CPX, .CPY,
        .LAX, .LAS, .ANC, .ALR, .ARR, .ANE, .LXA, .SBX, .USBC, .NOP] ∧
      (descriptorRow hi lo).mode ∈ [.absoluteX, .absoluteY, .indirectY] := by
  cases hi <;> cases lo <;> decide

/-- The row at an instruction's opcode, whatever its operand. -/
theorem descriptor_opcode (i : Instr) :
    (descriptor i.opcode).mnemonic = i.mnemonic ∧ (descriptor i.opcode).mode = i.operand.mode := by
  cases i <;> dsimp only [Instr.opcode] <;> exact ⟨rfl, rfl⟩

set_option maxRecDepth 8000 in
/-- Settles O12: the listed opcodes one byte at a time, the classes by the rows of the table. -/
theorem penaltyOpcodesAreTheSpecsList : Obligations.PenaltyOpcodesAreTheSpecsList := by
  refine ⟨by decide, fun i => ?_⟩
  obtain ⟨mnemonic_eq, mode_eq⟩ := descriptor_opcode i
  rw [← mnemonic_eq, ← mode_eq]
  exact descriptorRow_penalty_iff _ _

/-! ## The memory frame (R218) -/

/-- The only instructions on A as an operand are shifts and rotates, which then make no access. -/
theorem executionAccesses_accumulator {i : Instr} (h : i.operand = .accumulator) (s : State) :
    executionAccesses i s = [] := by
  cases i <;> first | rfl | cases h

theorem exec_mem_of_storesNothing {i : Instr} {s t : State} (h : exec i s = .next t)
    (hi : storesToMemory i = false) : t.mem = s.mem := by
  rw [storesToMemory_eq, Bool.and_eq_false_iff, bne_eq_false_iff_eq] at hi
  rcases hi with on_a | no_write
  · rw [exec_mem h, executionAccesses_accumulator on_a]
    rfl
  · exact (exec_writesOnly h).mem no_write

/-- Settles O20, from the frame of an instruction, and for the shifts of A from their accesses. -/
theorem nonStoringInstructionsKeepEveryByte : Obligations.NonStoringInstructionsKeepEveryByte := by
  intro i s t h hi a
  rw [State.read_eq_mem, State.read_eq_mem, exec_mem_of_storesNothing h hi]

end Sys2Proof.Machine
end

section
/-! The addressing modes (spec/40_execution.md R205 to R217): the instruction at PC has the operand that its mode reads
from the bytes at PC, so a mode is one resolution of that operand. -/

namespace Sys2Proof.Machine

/-! ## Addresses from bytes -/

theorem zeroPage_eq_setWidth (z : Byte) : zeroPage z = BitVec.setWidth 16 z := by
  apply BitVec.eq_of_toNat_eq
  have z_lt : z.toNat < 256 := z.isLt
  rw [zeroPage, toNat_word16, BitVec.toNat_setWidth]
  show 256 * 0 + z.toNat = z.toNat % 65536
  omega

/-- Pages are compared by the high byte (spec/40_execution.md R203). -/
theorem otherPage_eq_decide (p q : Addr) : otherPage p q = decide (p.toNat / 256 ≠ q.toNat / 256) := by
  simp only [← toNat_highByte, ne_eq, BitVec.toNat_inj, decide_not]
  rfl

theorem highByte_eq_ofNat (a : Addr) : highByte a = BitVec.ofNat 8 (a.toNat / 256) := by
  rw [← toNat_highByte, BitVec.ofNat_toNat, BitVec.setWidth_eq]

/-- The sum of a base and an index wraps at the top of the address space (R213). -/
theorem add_zeroPage_eq_ofNat (base : Addr) (index : Byte) :
    base + zeroPage index = BitVec.ofNat 16 (base.toNat + index.toNat) := by
  apply BitVec.eq_of_toNat_eq
  simp [zeroPage, toNat_word16]

theorem resolved_indexed_eq (base : Addr) (index : Byte) :
    Resolved.indexed base index =
      { ea := some (BitVec.ofNat 16 (base.toNat + index.toNat))
        crossed := decide ((BitVec.ofNat 16 (base.toNat + index.toNat) : Addr).toNat / 256 ≠ base.toNat / 256)
        high := some (highByte base) } := by
  simp only [Resolved.indexed, otherPage_eq_decide, add_zeroPage_eq_ofNat]

theorem getLsbD_word16 (lo hi : Byte) (k : Nat) :
    (word16 lo hi).getLsbD k = if k < 8 then lo.getLsbD k else hi.getLsbD (k - 8) :=
  BitVec.getLsbD_append

/-- The high byte of a jump pointer is read from the pointer's own page (spec/20_memory.md R109). -/
theorem jumpHighAt_eq (p : Addr) : jumpHighAt p = (p &&& 0xFF00#16) ||| ((p + 1#16) &&& 0xFF#16) := by
  have low_succ : lowByte p + 1#8 = lowByte (p + 1#16) := by
    apply BitVec.eq_of_toNat_eq
    simp [toNat_lowByte]
  rw [jumpHighAt, low_succ]
  generalize p + 1#16 = q
  refine BitVec.eq_of_getLsbD_eq fun k hk => ?_
  rw [getLsbD_word16]
  interval_cases k <;> simp [lowByte, highByte]

/-- A pointer in the zero page wraps inside it (spec/20_memory.md R108). -/
theorem readZp16_eq_append (s : State) (z : Byte) :
    s.readZp16 z = s.read (BitVec.setWidth 16 (z + 1#8)) ++ s.read (BitVec.setWidth 16 z) := by
  rw [State.readZp16_eq, zeroPage_eq_setWidth, zeroPage_eq_setWidth]
  rfl

/-! ## A mode, from the operand it reads -/

/-- The bytes of memory from PC on. -/
def State.bytesAtPC (s : State) (k : Nat) : Byte := s.read (s.pc + BitVec.ofNat 16 k)

theorem fetchInstr_operand (s : State) :
    (fetchInstr s).operand = operandAt s.bytesAtPC (descriptor (s.read s.pc)).mode := by
  have byte0 : s.bytesAtPC 0 = s.read s.pc := congrArg s.read (BitVec.add_zero _)
  rw [fetchInstr_eq, ← byte0]
  exact decodeAt_operand s.bytesAtPC

/-- A mode resolves to what its operand, read from the bytes at PC, resolves to with PC past the mode's bytes. -/
theorem resolvesTo_of_operandAt {mode : Mode} {result : State → Resolved}
    (h : ∀ s : State, resolve (operandAt s.bytesAtPC mode) (s.advance mode.length) = result s) :
    ResolvesTo mode mode.length result := by
  intro s hmode
  have operand_eq := fetchInstr_operand s
  rw [hmode] at operand_eq
  have fetched : afterFetch (fetchInstr s) s = s.advance mode.length := by
    rw [afterFetch, Instr.length, operand_eq, operandAt_mode]
  rw [fetched, operand_eq]
  exact ⟨rfl, h s⟩

/-! ## Which instructions have a mode (R209 to R211, R215) -/

theorem mnemonic_of_zeropageY (hi lo : Nibble) : (descriptorRow hi lo).mode = .zeropageY →
    (descriptorRow hi lo).mnemonic ∈ [.LDX, .STX, .SAX, .LAX] := by
  cases hi <;> cases lo <;> decide

theorem mnemonic_of_relative (hi lo : Nibble) : (descriptorRow hi lo).mode = .relative →
    (descriptorRow hi lo).mnemonic ∈ [.BPL, .BMI, .BVC, .BVS, .BCC, .BCS, .BNE, .BEQ] := by
  cases hi <;> cases lo <;> decide

theorem nibbles_of_indirect (hi lo : Nibble) : (descriptorRow hi lo).mode = .indirect → hi = .n6 ∧ lo = .nC := by
  cases hi <;> cases lo <;> decide

/-! ## The statements -/

/-- Settles O25: each mode's operand is read from the bytes at PC, and resolved without an access. -/
theorem plainModesResolveAsStated : Obligations.PlainModesResolveAsStated := by
  have zero_page {z : Byte} : Resolved.at (zeroPage z) = ⟨some (BitVec.setWidth 16 z), false, none⟩ := by
    rw [zeroPage_eq_setWidth, Resolved.at]
  refine ⟨?implied, ?accumulator, ?immediate, ?zeropage, ?zeropageX, ?zeropageY, ?absolute, ?only⟩
  case implied | accumulator | absolute => exact resolvesTo_of_operandAt fun _ => rfl
  case zeropage | zeropageX | zeropageY => exact resolvesTo_of_operandAt fun _ => zero_page
  case immediate =>
    refine resolvesTo_of_operandAt fun s => ?_
    have operand_addr : s.pc + 2#16 - 1#16 = s.pc + 1#16 := by
      generalize s.pc = pc
      bv_omega
    exact congrArg Resolved.at operand_addr
  case only =>
    intro i hmode
    obtain ⟨mnemonic_eq, mode_eq⟩ := descriptor_opcode i
    rw [← mnemonic_eq]
    exact mnemonic_of_zeropageY _ _ (mode_eq.trans hmode)

/-- Settles O26: each mode's operand is read from the bytes at PC; pages are compared by number, and the pointers wrap
in their own page. -/
theorem indexedAndPointerModesResolveAsStated : Obligations.IndexedAndPointerModesResolveAsStated := by
  refine ⟨?relative, ?absoluteX, ?absoluteY, ?indirect, ?indirectX, ?indirectY, ?branches, ?jump⟩
  case relative =>
    refine resolvesTo_of_operandAt fun s => ?_
    exact congrArg (fun crossed => Resolved.mk _ crossed none) (otherPage_eq_decide _ _)
  case absoluteX | absoluteY =>
    refine resolvesTo_of_operandAt fun s =>
      (resolved_indexed_eq (word16 (s.bytesAtPC 1) (s.bytesAtPC 2)) _).trans ?_
    rw [highByte_word16]
    rfl
  case indirect =>
    refine resolvesTo_of_operandAt fun s => congrArg Resolved.at ?_
    show (s.advance 3).readJmpInd (word16 (s.bytesAtPC 1) (s.bytesAtPC 2)) = _
    rw [State.readJmpInd_eq, jumpHighAt_eq]
    rfl
  case indirectX =>
    exact resolvesTo_of_operandAt fun s => congrArg Resolved.at (readZp16_eq_append _ _)
  case indirectY =>
    refine resolvesTo_of_operandAt fun s =>
      (resolved_indexed_eq ((s.advance 2).readZp16 (s.bytesAtPC 1)) s.y).trans ?_
    rw [readZp16_eq_append, highByte_eq_ofNat]
    rfl
  case branches =>
    intro i hmode
    obtain ⟨mnemonic_eq, mode_eq⟩ := descriptor_opcode i
    rw [← mnemonic_eq]
    exact mnemonic_of_relative _ _ (mode_eq.trans hmode)
  case jump =>
    intro i hmode
    obtain ⟨hhi, hlo⟩ := nibbles_of_indirect _ _ ((descriptor_opcode i).2.trans hmode)
    exact eq_of_nibbles_eq hhi hlo

end Sys2Proof.Machine
end

section
/-! The arithmetic of the flags (spec/40_execution.md R226 to R230): the binary subtract is the add of the complement,
and on decimal digits the adjusted sum and difference are those of the numbers that the digits write. -/

namespace Sys2Proof.Machine

/-! ## The binary add and subtract (R226, R228) -/

theorem msb_iff_le (b : Byte) : b.msb = true ↔ 128 ≤ b.toNat := by
  simp [BitVec.msb_eq_decide]

/-- A byte as a signed number. -/
theorem toInt_byte (b : Byte) : b.toInt = if 128 ≤ b.toNat then (b.toNat : Int) - 256 else b.toNat := by
  have b_lt : b.toNat < 256 := b.isLt
  rw [BitVec.toInt_eq_toNat_cond]
  split_ifs <;> omega

/-- A sum overflows when the operands have one sign and the result the other. -/
theorem addOverflows_iff (a m r : Byte) :
    addOverflows a m r = true ↔
      (128 ≤ a.toNat ↔ 128 ≤ m.toNat) ∧ ¬(128 ≤ a.toNat ↔ 128 ≤ r.toNat) := by
  simp only [← msb_iff_le, addOverflows, BitVec.msb_and, BitVec.msb_not, BitVec.msb_xor]
  cases a.msb <;> cases m.msb <;> cases r.msb <;> decide

section AddBinary

variable (a m : Byte) (c : Bool)

theorem addBinary_value : (addBinary a m c).value.toNat = (a.toNat + m.toNat + c.toNat) % 256 :=
  BitVec.toNat_ofNat _ _

theorem addBinary_c : (addBinary a m c).c = true ↔ 256 ≤ a.toNat + m.toNat + c.toNat := by
  simp [addBinary, Nat.lt_iff_add_one_le]

/-- V of the sum is signed overflow. -/
theorem addBinary_v : (addBinary a m c).v = true ↔
    a.toInt + m.toInt + (c.toNat : Int) < -128 ∨ 127 < a.toInt + m.toInt + (c.toNat : Int) := by
  have value_eq := addBinary_value a m c
  have a_lt : a.toNat < 256 := a.isLt
  have m_lt : m.toNat < 256 := m.isLt
  have c_le : c.toNat ≤ 1 := c.toNat_le
  have v_eq : (addBinary a m c).v = addOverflows a m (addBinary a m c).value := rfl
  rw [v_eq, addOverflows_iff, value_eq, toInt_byte, toInt_byte]
  split_ifs <;> omega

theorem addBinary_z : (addBinary a m c).z = true ↔ (addBinary a m c).value = 0#8 := beq_iff_eq

/-- The subtract is the add of the operand's complement (R228). -/
theorem subBinary_eq_addBinary : subBinary a m c = addBinary a (~~~m) c := by
  have sign (r : Byte) : subOverflows a m r = addOverflows a (~~~m) r := by
    simp only [subOverflows, addOverflows, BitVec.not_xor_right, BitVec.not_not]
  simp only [subBinary, addBinary, sign]

theorem toInt_complement : (~~~m).toInt = -1 - m.toInt := by
  have m_lt : m.toNat < 256 := m.isLt
  rw [toInt_byte, toInt_byte, BitVec.toNat_not]
  split_ifs <;> omega

theorem subBinary_value :
    ((subBinary a m c).value.toNat : Int) = ((a.toNat : Int) - m.toNat - (1 - (c.toNat : Int))) % 256 := by
  have m_lt : m.toNat < 256 := m.isLt
  rw [subBinary_eq_addBinary, addBinary_value, BitVec.toNat_not]
  omega

theorem subBinary_c : (subBinary a m c).c = true ↔ m.toNat + 1 ≤ a.toNat + c.toNat := by
  have m_lt : m.toNat < 256 := m.isLt
  rw [subBinary_eq_addBinary, addBinary_c, BitVec.toNat_not]
  omega

/-- V of the difference is signed overflow. -/
theorem subBinary_v : (subBinary a m c).v = true ↔
    a.toInt - m.toInt - (1 - (c.toNat : Int)) < -128 ∨ 127 < a.toInt - m.toInt - (1 - (c.toNat : Int)) := by
  rw [subBinary_eq_addBinary, addBinary_v, toInt_complement]
  omega

theorem subBinary_z : (subBinary a m c).z = true ↔ (subBinary a m c).value = 0#8 := beq_iff_eq

end AddBinary

/-- Settles O28: the add by its carry and its signs, and the subtract as an add. -/
theorem binaryArithmeticIsArithmetic : Obligations.BinaryArithmeticIsArithmetic := fun a m c =>
  ⟨addBinary_value a m c, addBinary_c a m c, addBinary_v a m c, rfl, addBinary_z a m c,
    subBinary_value a m c, subBinary_c a m c, subBinary_v a m c, rfl, subBinary_z a m c⟩

/-! ## The decimal add and subtract (R227, R229) -/

/-- The byte of two decimal digits. -/
def digitsByte (high low : Nat) : Byte := BitVec.ofNat 8 (16 * high + low)

theorem toNat_digitsByte {high low : Nat} (hhigh : high < 10) (hlow : low < 10) :
    (digitsByte high low).toNat = 16 * high + low := by
  rw [digitsByte, BitVec.toNat_ofNat]
  omega

/-! Sums and differences go by columns: the low digits give a digit `d` and a carry or borrow `k` into the high
digits, whose column is `h`. The adjustment by 0x60 makes the byte of two digits of `10 * h + d`. -/

theorem addAdjusted_column {h d : Nat} (hh : h < 20) (hd : d < 10) :
    (if 0xA0 ≤ 16 * h + d then 16 * h + d + 0x60 else 16 * h + d) % 256 =
        16 * ((10 * h + d) % 100 / 10) + (10 * h + d) % 10 ∧
      (0x100 ≤ (if 0xA0 ≤ 16 * h + d then 16 * h + d + 0x60 else 16 * h + d) ↔ 100 ≤ 10 * h + d) := by
  have tens : (10 * h + d) % 100 / 10 = if 10 ≤ h then h - 10 else h := by split_ifs <;> omega
  rw [tens]
  split_ifs <;> omega

theorem subAdjusted_column {h d : Int} (hlow : -10 ≤ h) (hhigh : h < 10) (hd0 : 0 ≤ d) (hd : d < 10) :
    (if 16 * h + d < 0 then 16 * h + d - 0x60 else 16 * h + d) % 256 =
      16 * ((10 * h + d) % 100 / 10) + (10 * h + d) % 10 := by
  have tens : (10 * h + d) % 100 / 10 = if h < 0 then h + 10 else h := by split_ifs <;> omega
  rw [tens]
  split_ifs <;> omega

section Decimal

variable {a1 a0 m1 m0 : Nat} (c : Bool) (ha1 : a1 < 10) (ha0 : a0 < 10) (hm1 : m1 < 10) (hm0 : m0 < 10)

include ha1 ha0 hm1 hm0

theorem addDecimalSum_digits {k d : Nat} (hlow : a0 + m0 + c.toNat = 10 * k + d) (hd : d < 10) :
    addDecimalSum (digitsByte a1 a0) (digitsByte m1 m0) c = 16 * (a1 + m1 + k) + d := by
  have c_le : c.toNat ≤ 1 := c.toNat_le
  simp only [addDecimalSum, addLowDigit, toNat_digitsByte ha1 ha0, toNat_digitsByte hm1 hm0]
  split_ifs <;> omega

/-- The adjusted sum is the digits' sum, its hundred as a carry. -/
theorem addDecimal_digits :
    (addDecimal (digitsByte a1 a0) (digitsByte m1 m0) c).value.toNat =
        16 * ((10 * a1 + a0 + (10 * m1 + m0) + c.toNat) % 100 / 10) +
          (10 * a1 + a0 + (10 * m1 + m0) + c.toNat) % 10 ∧
      ((addDecimal (digitsByte a1 a0) (digitsByte m1 m0) c).c = true ↔
        100 ≤ 10 * a1 + a0 + (10 * m1 + m0) + c.toNat) := by
  obtain ⟨k, d, hlow, hd, hk⟩ : ∃ k d, a0 + m0 + c.toNat = 10 * k + d ∧ d < 10 ∧ k < 2 := by
    have c_le : c.toNat ≤ 1 := c.toNat_le
    exact ⟨(a0 + m0 + c.toNat) / 10, (a0 + m0 + c.toNat) % 10, by omega, by omega, by omega⟩
  have sum_eq : 10 * a1 + a0 + (10 * m1 + m0) + c.toNat = 10 * (a1 + m1 + k) + d := by omega
  simp only [addDecimal, addDecimalSum_digits c ha1 ha0 hm1 hm0 hlow hd, sum_eq, BitVec.toNat_ofNat,
    decide_eq_true_eq]
  exact addAdjusted_column (by omega) hd

theorem subDifference_digits {k d : Int} (hlow : (a0 : Int) - m0 + c.toNat - 1 = 10 * k + d) (hd0 : 0 ≤ d)
    (hd : d < 10) :
    (((digitsByte a1 a0).toNat / 16 * 16 : Nat) - ((digitsByte m1 m0).toNat / 16 * 16 : Nat) +
      subLowDigit (digitsByte a1 a0) (digitsByte m1 m0) c : Int) = 16 * (a1 - m1 + k) + d := by
  have c_le : c.toNat ≤ 1 := c.toNat_le
  simp only [subLowDigit, toNat_digitsByte ha1 ha0, toNat_digitsByte hm1 hm0]
  split_ifs <;> omega

/-- The adjusted difference is the digits' difference modulo 100. -/
theorem subDecimal_value_digits :
    ((subDecimal (digitsByte a1 a0) (digitsByte m1 m0) c).value.toNat : Int) =
      16 * (((10 * a1 + a0 : Nat) - (10 * m1 + m0 : Nat) - (1 - (c.toNat : Int))) % 100 / 10) +
        ((10 * a1 + a0 : Nat) - (10 * m1 + m0 : Nat) - (1 - (c.toNat : Int))) % 10 := by
  obtain ⟨k, d, hlow, hd0, hd, hk0, hk⟩ : ∃ k d : Int, (a0 : Int) - m0 + c.toNat - 1 = 10 * k + d ∧ 0 ≤ d ∧
      d < 10 ∧ -1 ≤ k ∧ k ≤ 0 := by
    have c_le : c.toNat ≤ 1 := c.toNat_le
    exact ⟨((a0 : Int) - m0 + c.toNat - 1) / 10, ((a0 : Int) - m0 + c.toNat - 1) % 10, by omega, by omega,
      by omega, by omega, by omega⟩
  have diff_eq : ((10 * a1 + a0 : Nat) - (10 * m1 + m0 : Nat) - (1 - (c.toNat : Int)) : Int) =
      10 * (a1 - m1 + k) + d := by omega
  simp only [subDecimal, subDifference_digits c ha1 ha0 hm1 hm0 hlow hd0 hd, diff_eq, BitVec.toNat_ofInt]
  rw [← subAdjusted_column (by omega) (by omega) hd0 hd]
  exact Int.toNat_of_nonneg (Int.emod_nonneg _ (by decide))

/-- The digits' difference has no borrow exactly when the binary one has none. -/
theorem subDecimal_c_digits :
    (subDecimal (digitsByte a1 a0) (digitsByte m1 m0) c).c = true ↔
      0 ≤ ((10 * a1 + a0 : Nat) - (10 * m1 + m0 : Nat) - (1 - (c.toNat : Int)) : Int) := by
  have c_le : c.toNat ≤ 1 := c.toNat_le
  have c_eq : (subDecimal (digitsByte a1 a0) (digitsByte m1 m0) c).c =
    (subBinary (digitsByte a1 a0) (digitsByte m1 m0) c).c := rfl
  rw [c_eq, subBinary_c, toNat_digitsByte ha1 ha0, toNat_digitsByte hm1 hm0]
  omega

end Decimal

/-- Without the decimal adder or with D = 0 both operations are binary (R230). -/
theorem arithWith_binary {enabled d : Bool} (h : d = false ∨ enabled = false) (a m : Byte) (c : Bool) :
    addWith enabled d a m c = addBinary a m c ∧ subWith enabled d a m c = subBinary a m c := by
  have off : (d && enabled) = false := Bool.and_eq_false_iff.mpr h
  simp only [addWith, subWith, off]
  exact ⟨rfl, rfl⟩

/-- Settles O29: digit by digit, and the subtract's flags are those of the binary difference by definition. -/
theorem decimalArithmeticOnDigits : Obligations.DecimalArithmeticOnDigits := by
  refine ⟨fun a1 a0 m1 m0 c ha1 ha0 hm1 hm0 => ?_, fun _ _ a m c h => arithWith_binary h a m c⟩
  obtain ⟨sum_value, sum_c⟩ := addDecimal_digits c ha1 ha0 hm1 hm0
  exact ⟨sum_value, sum_c, rfl, subDecimal_value_digits c ha1 ha0 hm1 hm0,
    subDecimal_c_digits c ha1 ha0 hm1 hm0, rfl, rfl, rfl⟩

end Sys2Proof.Machine
end

section
/-! The data accesses of each class (spec/40_execution.md R218): a list of accesses follows from the mnemonic's class
and from the operands that its forms have. -/

namespace Sys2Proof.Machine

/-- The operands of each mnemonic's forms, as far as its accesses depend on them. -/
def DataOperand (mn : Mnemonic) (o : Operand) : Prop :=
  match mn with
  | .LDA | .LDX | .LDY | .ADC | .SBC | .AND | .ORA | .EOR | .BIT | .CMP | .CPX | .CPY | .LAX | .LAS | .ANC | .ALR
  | .ARR | .ANE | .LXA | .SBX | .USBC => (∃ v, o = .immediate v) ∨ ∃ m, o = .memory m
  | .NOP => o = .implied ∨ (∃ v, o = .immediate v) ∨ ∃ m, o = .memory m
  | .ASL | .LSR | .ROL | .ROR | .INC | .DEC | .SLO | .RLA | .SRE | .RRA | .DCP | .ISC =>
    o = .accumulator ∨ ∃ m, o = .memory m
  | .JSR => o.mode = .absolute
  | .BRK => o = .implied
  | _ => StoreOperand mn o

theorem dataOperand_of_instr (i : Instr) : DataOperand i.mnemonic i.operand := by
  cases i <;> first
    | trivial
    | rfl
    | exact ⟨_, rfl⟩
    | exact .inl ⟨_, rfl⟩
    | exact .inr ⟨_, rfl⟩
    | exact .inl rfl
    | exact .inr (.inl ⟨_, rfl⟩)
    | exact .inr (.inr ⟨_, rfl⟩)

/-! ## From the mnemonic's class to its list of accesses -/

section Classes

variable {mn : Mnemonic} {o : Operand} (u : State)

section Operands

variable (ho : DataOperand mn o)

include ho

theorem dataAccesses_read (h : mn ∈ [.LDA, .LDX, .LDY, .ADC, .SBC, .AND, .ORA, .EOR, .BIT, .CMP, .CPX, .CPY, .LAX,
      .LAS, .ANC, .ALR, .ARR, .ANE, .LXA, .SBX, .USBC] ∨ (mn = .NOP ∧ o ≠ .implied)) :
    dataAccesses mn o u = readAt o u ∧ ((∃ v, o = .immediate v) ∨ ∃ m, o = .memory m) := by
  obtain h | ⟨rfl, not_implied⟩ := h
  · fin_cases h <;> exact ⟨rfl, ho⟩
  · exact ⟨rfl, ho.resolve_left not_implied⟩

theorem dataAccesses_store (h : mn ∈ [.STA, .STX, .STY, .SAX]) :
    ∃ m v, o = .memory m ∧ dataAccesses mn o u = [.write (effectiveAddr m u) v] := by
  fin_cases h <;> (obtain ⟨m, rfl⟩ := ho; exact ⟨m, _, rfl, rfl⟩)

theorem dataAccesses_unstable (h : mn ∈ [.SHA, .SHX, .SHY, .TAS]) : ∃ a v, dataAccesses mn o u = [.write a v] := by
  fin_cases h <;> (obtain ⟨ix, rfl⟩ := ho; exact ⟨_, _, rfl⟩)

theorem dataAccesses_modify (h : mn ∈ [.ASL, .LSR, .ROL, .ROR, .INC, .DEC, .SLO, .RLA, .SRE, .RRA, .DCP, .ISC]) :
    ∃ compute, dataAccesses mn o u = modifyAt o u compute ∧ (o = .accumulator ∨ ∃ m, o = .memory m) := by
  fin_cases h <;> exact ⟨_, rfl, ho⟩

end Operands

theorem dataAccesses_register (h : mn ∈ [.TAX, .TAY, .TXA, .TYA, .TSX, .TXS, .INX, .INY, .DEX, .DEY, .CLC, .SEC,
      .CLI, .SEI, .CLD, .SED, .CLV, .JAM] ∨ (mn = .NOP ∧ o = .implied)) : dataAccesses mn o u = [] := by
  obtain h | ⟨rfl, rfl⟩ := h
  · fin_cases h <;> rfl
  · rfl

theorem dataAccesses_jump (h : mn ∈ [.JMP, .BPL, .BMI, .BVC, .BVS, .BCC, .BCS, .BNE, .BEQ]) :
    dataAccesses mn o u = [] := by
  fin_cases h <;> rfl

theorem dataAccesses_pull (h : mn ∈ [.PLA, .PLP]) : dataAccesses mn o u = [.read (stackAddr (u.sp + 1#8))] := by
  fin_cases h <;> rfl

theorem dataAccesses_rts (h : mn = .RTS) :
    dataAccesses mn o u = [.read (stackAddr (u.sp + 1#8)), .read (stackAddr (u.sp + 2#8))] := by
  have second : u.sp + 1#8 + 1#8 = u.sp + 2#8 := BitVec.add_assoc ..
  rw [h, ← second]
  rfl

theorem dataAccesses_rti (h : mn = .RTI) :
    dataAccesses mn o u =
      [.read (stackAddr (u.sp + 1#8)), .read (stackAddr (u.sp + 2#8)), .read (stackAddr (u.sp + 3#8))] := by
  have second : u.sp + 1#8 + 1#8 = u.sp + 2#8 := BitVec.add_assoc ..
  have third : u.sp + 2#8 + 1#8 = u.sp + 3#8 := BitVec.add_assoc ..
  rw [h, ← third, ← second]
  rfl

end Classes

theorem effectiveAddr_of_memory {i : Instr} {m : MemOperand} (h : i.operand = .memory m) (s : State) :
    EffectiveAddr i s (effectiveAddr m (afterFetch i s)) := by
  simp only [EffectiveAddr, h]

/-! ## The pushes of the return address, from the state before the fetch -/

theorem afterFetch_pc {i : Instr} {mode : Mode} (h : i.operand.mode = mode) (s : State) :
    (afterFetch i s).pc = s.pc + BitVec.ofNat 16 mode.length := by
  rw [← h]
  rfl

/-- JSR pushes the address of its last byte (spec/44_control_flow.md R411). -/
theorem dataAccesses_jsr {i : Instr} (h : i.mnemonic = .JSR) (s : State) :
    dataAccesses i.mnemonic i.operand (afterFetch i s) =
      [.write (stackAddr s.sp) (highByte (s.pc + 2#16)),
        .write (stackAddr (s.sp - 1#8)) (lowByte (s.pc + 2#16))] := by
  have ho := dataOperand_of_instr i
  rw [h] at ho
  have last_byte : (afterFetch i s).pc - 1#16 = s.pc + 2#16 := by
    rw [afterFetch_pc ho]
    generalize s.pc = pc
    simp only [Mode.length]
    bv_omega
  rw [h, ← last_byte]
  rfl

/-- BRK pushes the address past its signature byte (spec/45_stack_flag_system.md R462). -/
theorem dataAccesses_brk {i : Instr} (h : i.mnemonic = .BRK) (s : State) :
    dataAccesses i.mnemonic i.operand (afterFetch i s) =
      [.write (stackAddr s.sp) (highByte (s.pc + 2#16)), .write (stackAddr (s.sp - 1#8)) (lowByte (s.pc + 2#16)),
        .write (stackAddr (s.sp - 2#8)) (s.flags.pack true), .read 0xFFFE#16, .read 0xFFFF#16] := by
  have ho := dataOperand_of_instr i
  rw [h] at ho
  have return_addr : ((afterFetch i s).advance 1).pc = s.pc + 2#16 := by
    rw [State.advance_pc, afterFetch_pc (congrArg Operand.mode ho), BitVec.add_assoc]
    rfl
  have third : s.sp - 1#8 - 1#8 = s.sp - 2#8 := by
    generalize s.sp = sp
    bv_omega
  rw [h, ← return_addr, ← third]
  rfl

/-! ## The statement -/

/-- Settles O24, class by class: the mnemonic gives the list of accesses, and the operand its addresses. -/
theorem accessClassesFixTheDataAccesses : Obligations.AccessClassesFixTheDataAccesses := by
  intro i s
  have ho := dataOperand_of_instr i
  refine ⟨?read, ?store, dataAccesses_unstable _ ho, ?modify, dataAccesses_register _, dataAccesses_jump _,
    ?pha, ?php, dataAccesses_pull _, fun h => dataAccesses_jsr h s, dataAccesses_rts _,
    dataAccesses_rti _, fun h => dataAccesses_brk h s⟩
  case read =>
    intro h
    obtain ⟨accesses_eq, ⟨v, hv⟩ | ⟨m, hm⟩⟩ := dataAccesses_read (afterFetch i s) ho h
    · exact .inr ⟨⟨v, hv⟩, accesses_eq.trans (by rw [hv]; rfl)⟩
    · exact .inl ⟨_, effectiveAddr_of_memory hm s, accesses_eq.trans (by rw [hm]; rfl)⟩
  case store =>
    intro h
    obtain ⟨m, v, hm, accesses_eq⟩ := dataAccesses_store (afterFetch i s) ho h
    exact ⟨_, v, effectiveAddr_of_memory hm s, accesses_eq⟩
  case modify =>
    intro h
    obtain ⟨compute, accesses_eq, hacc | ⟨m, hm⟩⟩ := dataAccesses_modify (afterFetch i s) ho h
    · exact .inr ⟨hacc, accesses_eq.trans (by rw [hacc]; rfl)⟩
    · exact .inl ⟨_, _, effectiveAddr_of_memory hm s, accesses_eq.trans (by rw [hm]; rfl)⟩
  case pha | php =>
    intro h
    rw [h]
    rfl

end Sys2Proof.Machine
end

section
/-! What an instruction of the register, read and store classes leaves, from its effect alone (spec/40_execution.md
R200, R218), and with it the loads, the stores and the transfers (spec/41_load_store_transfer.md, and R554 and R555 of
spec/47_undocumented.md). -/

namespace Sys2Proof.Machine

/-! ## An instruction from its effect -/

/-- The end of an instruction whose effect leaves `t`: unlike after PLP, CLI and SEI, I_poll is the I of `t`. -/
def afterEffect (i : Instr) (s t : State) : State := { t with iPoll := t.flags.i, cycles := cyclesAfter i s }

/-- Only PLP, CLI and SEI delay the change of I (spec/10_state.md R66). -/
theorem delaysMask_opcode {i : Instr} (h : i.mnemonic ∉ [.PLP, .CLI, .SEI]) : delaysMask i.opcode = false := by
  rw [← Bool.not_eq_true, delaysMask_iff]
  rintro (e | e | e) <;> exact h (by rw [← (descriptor_opcode i).1, e]; decide)

/-- An instruction completes at the end of its effect, with nothing else written. -/
theorem exec_eq_afterEffect {i : Instr} (h : i.mnemonic ∉ [.PLP, .CLI, .SEI]) (s : State) :
    exec i s = .next (afterEffect i s (effectOf i.mnemonic i.operand (afterFetch i s)).1) := by
  rw [exec_eq, afterEffect, ← afterInstruction_cycles]
  simp only [afterInstruction, finish, delaysMask_opcode h]
  rfl

/-- Register class: the instruction is its function of the state. -/
theorem exec_register {i : Instr} {f : State → State} (h : i.mnemonic ∉ [.PLP, .CLI, .SEI])
    (heffect : effectFor i.mnemonic i.operand = plainEffect f) (s : State) :
    exec i s = .next (afterEffect i s (f (afterFetch i s))) := by
  rw [exec_eq_afterEffect h, effectOf, heffect]
  rfl

/-- The mnemonics whose forms are all of the read class. -/
def readMnemonics : List Mnemonic :=
  [.LDA, .LDX, .LDY, .ADC, .SBC, .AND, .ORA, .EOR, .BIT, .CMP, .CPX, .CPY, .LAX, .LAS, .ANC, .ALR, .ARR, .ANE, .LXA,
    .SBX, .USBC]

theorem not_delaying_of_read : ∀ mn ∈ readMnemonics, mn ∉ [.PLP, .CLI, .SEI] := by decide

/-- Read class: the instruction is its function of the operand byte and the state. -/
theorem exec_read {i : Instr} {f : Byte → State → State} (h : i.mnemonic ∈ readMnemonics)
    (heffect : effectFor i.mnemonic i.operand = readClass f i.operand) (s : State) :
    ∃ m, OperandByte i s m ∧ exec i s = .next (afterEffect i s (f m (afterFetch i s))) := by
  rw [exec_eq_afterEffect (not_delaying_of_read _ h), effectOf, heffect]
  obtain ⟨-, ⟨v, immediate⟩ | ⟨o, memory⟩⟩ := dataAccesses_read s (dataOperand_of_instr i) (.inl h)
  · simp only [OperandByte, immediate]
    exact ⟨v, rfl, rfl⟩
  · simp only [OperandByte, memory]
    exact ⟨_, rfl, rfl⟩

/-- Store class: the instruction writes its source at the effective address. -/
theorem exec_store {i : Instr} {src : State → Byte} (h : i.mnemonic ∈ [.STA, .STX, .STY, .SAX])
    (heffect : effectFor i.mnemonic i.operand = storeEffect src) (s : State) :
    ∃ o, i.operand = .memory o ∧ exec i s = .next (afterEffect i s
      ((afterFetch i s).write (effectiveAddr o (afterFetch i s)) (src (afterFetch i s)))) := by
  have not_delaying : ∀ mn : Mnemonic, mn ∈ [.STA, .STX, .STY, .SAX] → mn ∉ [.PLP, .CLI, .SEI] := by decide
  obtain ⟨o, -, memory, -⟩ := dataAccesses_store s (dataOperand_of_instr i) h
  refine ⟨o, memory, ?_⟩
  rw [exec_eq_afterEffect (not_delaying _ h), effectOf, heffect, memory]
  rfl

/-- A write leaves every other byte. -/
theorem State.write_storesOnly (s : State) (ea : Addr) (v : Byte) : StoresOnly s (s.write ea v) ea v :=
  ⟨by rw [State.read_write, if_pos rfl], fun a h => by rw [State.read_write, if_neg h]⟩

/-! ## Loads (R250 to R252, R555) -/

/-- What a load does with its operand byte: it fills its register, LAX fills both A and X. -/
def loadInto (mn : Mnemonic) (m : Byte) (s : State) : State :=
  { s with
    a := if mn = .LDA ∨ mn = .LAX then m else s.a
    x := if mn = .LDX ∨ mn = .LAX then m else s.x
    y := if mn = .LDY then m else s.y
    flags := s.flags.setNZ m }

theorem effectFor_load {mn : Mnemonic} (h : mn = .LDA ∨ mn = .LDX ∨ mn = .LDY ∨ mn = .LAX) (o : Operand) :
    effectFor mn o = readClass (loadInto mn) o := by
  obtain rfl | rfl | rfl | rfl := h <;> rfl

/-- Settles O30: a load is of the read class, and fills its registers. -/
theorem loadsFillTheirRegisters : Obligations.LoadsFillTheirRegisters := by
  refine ⟨?lda, ?ldx, ?ldy, ?lax, fun i s h => ?completes⟩
  case lda | ldx | ldy | lax =>
    rw [formsOf_eq_rowFormsOf]
    decide
  case completes =>
    have read : i.mnemonic ∈ readMnemonics := by
      obtain h | h | h | h := h <;> (rw [h]; decide)
    obtain ⟨m, operand_byte, completes⟩ := exec_read read (effectFor_load h i.operand) s
    exact ⟨m, _, operand_byte, completes, rfl⟩

/-! ## Stores (R253 to R255, R554) -/

/-- The source of a store is a register, or A AND X: the fetches leave it, and it is the byte of the listed access. -/
theorem effectFor_store {mn : Mnemonic} {s : State} {v : Byte}
    (h : (mn = .STA ∧ v = s.a) ∨ (mn = .STX ∧ v = s.x) ∨ (mn = .STY ∧ v = s.y) ∨ (mn = .SAX ∧ v = s.a &&& s.x)) :
    mn ∈ [.STA, .STX, .STY, .SAX] ∧ ∃ src, (∀ n, src (s.advance n) = v) ∧
      ∀ o, effectFor mn o = storeEffect src ∧ ∀ u, dataAccesses mn o u = writeAt o u (src u) := by
  obtain ⟨rfl, rfl⟩ | ⟨rfl, rfl⟩ | ⟨rfl, rfl⟩ | ⟨rfl, rfl⟩ := h
  · exact ⟨by decide, State.a, fun _ => rfl, fun _ => ⟨rfl, fun _ => rfl⟩⟩
  · exact ⟨by decide, State.x, fun _ => rfl, fun _ => ⟨rfl, fun _ => rfl⟩⟩
  · exact ⟨by decide, State.y, fun _ => rfl, fun _ => ⟨rfl, fun _ => rfl⟩⟩
  · exact ⟨by decide, andOfAX, fun _ => rfl, fun _ => ⟨rfl, fun _ => rfl⟩⟩

/-- Settles O31: a store is one write of its source at its effective address. -/
theorem storesWriteTheirRegister : Obligations.StoresWriteTheirRegister := by
  refine ⟨?sta, ?stx, ?sty, ?sax, fun i s v h => ?completes⟩
  case sta | stx | sty | sax =>
    rw [formsOf_eq_rowFormsOf]
    decide
  case completes =>
    obtain ⟨store, src, src_eq, class_eq⟩ := effectFor_store h
    obtain ⟨effect_eq, accesses_eq⟩ := class_eq i.operand
    obtain ⟨o, memory, completes⟩ := exec_store store effect_eq s
    have source : src (afterFetch i s) = v := src_eq i.length
    rw [source] at completes
    refine ⟨_, _, effectiveAddr_of_memory memory s, completes, State.write_storesOnly (afterFetch i s) _ v, ?_, rfl⟩
    rw [accesses_eq, source, memory]
    rfl

/-! ## Transfers (R256 to R261) -/

/-- Settles O32: each transfer is of the register class. -/
theorem transfersCopyOneRegister : Obligations.TransfersCopyOneRegister := by
  refine ⟨?tax, ?tay, ?txa, ?tya, ?tsx, ?txs, fun s => ?complete⟩
  case tax | tay | txa | tya | tsx | txs =>
    rw [formsOf_eq_rowFormsOf]
    decide
  case complete =>
    exact ⟨exec_register (f := transferAX) (by decide) rfl s, exec_register (f := transferAY) (by decide) rfl s,
      exec_register (f := transferXA) (by decide) rfl s, exec_register (f := transferYA) (by decide) rfl s,
      exec_register (f := transferSX) (by decide) rfl s, exec_register (f := transferXS) (by decide) rfl s⟩

end Sys2Proof.Machine
end

section
/-! Arithmetic, logic, compare, increment and decrement (spec/42_arith_logic.md R300 to R314), each from its effect:
the read class, the read-modify-write class and the register class. -/

namespace Sys2Proof.Machine

/-! ## Add and subtract (R300, R301, R564) -/

/-- Without the decimal adder the add is binary, whatever D is (R230). -/
theorem addToA_eq_addBinary (m : Byte) (s : State) :
    addToA m s = { s with
      a := (addBinary s.a m s.flags.c).value, flags := s.flags.setArith (addBinary s.a m s.flags.c) } := by
  simp only [addToA, (arithWith_binary (.inr (rfl : Config.decimalEnabled = false)) _ _ _).1]

/-- Without the decimal adder the subtract is binary, whatever D is (R230). -/
theorem subFromA_eq_subBinary (m : Byte) (s : State) :
    subFromA m s = { s with
      a := (subBinary s.a m s.flags.c).value, flags := s.flags.setArith (subBinary s.a m s.flags.c) } := by
  simp only [subFromA, (arithWith_binary (.inr (rfl : Config.decimalEnabled = false)) _ _ _).2]

/-- Settles O33: ADC is of the read class, and its add is `AddBinary`. -/
theorem adcAddsWithCarry : Obligations.AdcAddsWithCarry := by
  refine ⟨?forms, rfl, fun _ _ _ => rfl, by decide, by decide, by decide, by decide, fun i s h => ?completes⟩
  case forms =>
    rw [formsOf_eq_rowFormsOf]
    decide
  case completes =>
    have effect_eq : effectFor i.mnemonic i.operand = readClass addToA i.operand := by rw [h]; rfl
    obtain ⟨m, operand_byte, completes⟩ := exec_read (by rw [h]; decide) effect_eq s
    rw [addToA_eq_addBinary] at completes
    exact ⟨m, _, operand_byte, completes, rfl⟩

/-- The byte of the subtract as a difference of bytes: a clear carry is a borrow (R228). -/
theorem subBinary_value_eq_sub (a m : Byte) (c : Bool) :
    (subBinary a m c).value = a - m - if c then 0#8 else 1#8 := by
  have value_eq := subBinary_value a m c
  apply BitVec.eq_of_toNat_eq
  rw [BitVec.toNat_sub, BitVec.toNat_sub]
  cases c
  case false =>
    rw [Bool.toNat_false] at value_eq
    have borrow : (if false then 0#8 else 1#8).toNat = 1 := rfl
    omega
  case true =>
    rw [Bool.toNat_true] at value_eq
    have no_borrow : (if true then 0#8 else 1#8).toNat = 0 := rfl
    omega

/-- The subtract, with C as "the operand and the borrow fit in A" (R228). -/
theorem subBinary_eq (a m : Byte) (c : Bool) :
    subBinary a m c =
      let r := a - m - if c then 0#8 else 1#8
      { value := r, n := r.msb, v := subOverflows a m r, z := r == 0#8
        c := decide (m.toNat + (1 - c.toNat) ≤ a.toNat) } := by
  have no_borrow : (subBinary a m c).c = decide (m.toNat + (1 - c.toNat) ≤ a.toNat) := by
    have c_le : c.toNat ≤ 1 := c.toNat_le
    rw [Bool.eq_iff_iff, subBinary_c, decide_eq_true_iff]
    omega
  rw [← subBinary_value_eq_sub, ← no_borrow]
  rfl

/-- Settles O34: SBC and USBC are of the read class, and their subtract is `SubBinary`. -/
theorem sbcSubtractsWithBorrow : Obligations.SbcSubtractsWithBorrow := by
  refine ⟨?sbc, ?usbc, rfl, fun _ _ _ => rfl, by decide, by decide, by decide, by decide, fun i s h => ?completes⟩
  case sbc | usbc =>
    rw [formsOf_eq_rowFormsOf]
    decide
  case completes =>
    obtain ⟨read, effect_eq⟩ : i.mnemonic ∈ readMnemonics ∧
        effectFor i.mnemonic i.operand = readClass subFromA i.operand := by
      obtain h | h := h <;> (rw [h]; exact ⟨by decide, rfl⟩)
    obtain ⟨m, operand_byte, completes⟩ := exec_read read effect_eq s
    rw [subFromA_eq_subBinary, subBinary_eq] at completes
    exact ⟨m, _, operand_byte, completes, rfl⟩

/-! ## Logic and BIT (R302 to R305) -/

/-- AND, ORA and EOR load A with a bitwise function of A and the operand byte. -/
theorem effectFor_logic {mn : Mnemonic} {op : Byte → Byte → Byte}
    (h : (mn = .AND ∧ op = (· &&& ·)) ∨ (mn = .ORA ∧ op = (· ||| ·)) ∨ (mn = .EOR ∧ op = (· ^^^ ·))) (o : Operand) :
    mn ∈ readMnemonics ∧ effectFor mn o = readClass (fun m s => loadA (op s.a m) s) o := by
  obtain ⟨rfl, rfl⟩ | ⟨rfl, rfl⟩ | ⟨rfl, rfl⟩ := h <;> exact ⟨by decide, rfl⟩

/-- Settles O35: the three are of the read class, and load A with their result. -/
theorem logicCombinesWithA : Obligations.LogicCombinesWithA := by
  refine ⟨?and, ?ora, ?eor, fun i s op h => ?completes⟩
  case and | ora | eor =>
    rw [formsOf_eq_rowFormsOf]
    decide
  case completes =>
    obtain ⟨read, effect_eq⟩ := effectFor_logic h i.operand
    obtain ⟨m, operand_byte, completes⟩ := exec_read read effect_eq s
    exact ⟨m, _, operand_byte, completes, rfl⟩

/-- Settles O36: BIT is of the read class, and writes flags only. -/
theorem bitTestsTheOperand : Obligations.BitTestsTheOperand := by
  refine ⟨?forms, fun i s h => ?completes⟩
  case forms =>
    rw [formsOf_eq_rowFormsOf]
    decide
  case completes =>
    have effect_eq : effectFor i.mnemonic i.operand = readClass bitTest i.operand := by rw [h]; rfl
    obtain ⟨m, operand_byte, completes⟩ := exec_read (by rw [h]; decide) effect_eq s
    exact ⟨m, _, operand_byte, completes, rfl⟩

/-! ## Compares (R306 to R308) -/

/-- The difference of two bytes is 0 when they are equal, so Z is equality (R231). -/
theorem compare_eq (f : Flags) (r m : Byte) :
    f.compare r m = { f with c := decide (m.toNat ≤ r.toNat), z := decide (r = m), n := (r - m).msb } := by
  have equal : (r - m == 0#8) = decide (r = m) := by
    rw [Bool.eq_iff_iff, beq_iff_eq, decide_eq_true_iff]
    exact sub_eq_zero
  rw [← equal]
  rfl

/-- A compare is the one of its register, which the fetches leave. -/
theorem effectFor_compare {mn : Mnemonic} {s : State} {r : Byte}
    (h : (mn = .CMP ∧ r = s.a) ∨ (mn = .CPX ∧ r = s.x) ∨ (mn = .CPY ∧ r = s.y)) :
    mn ∈ readMnemonics ∧ ∃ reg : State → Byte, (∀ n, reg (s.advance n) = r) ∧
      ∀ o, effectFor mn o = readClass (fun m t => { t with flags := t.flags.compare (reg t) m }) o := by
  obtain ⟨rfl, rfl⟩ | ⟨rfl, rfl⟩ | ⟨rfl, rfl⟩ := h
  · exact ⟨by decide, State.a, fun _ => rfl, fun _ => rfl⟩
  · exact ⟨by decide, State.x, fun _ => rfl, fun _ => rfl⟩
  · exact ⟨by decide, State.y, fun _ => rfl, fun _ => rfl⟩

/-- Settles O37: the three are of the read class, and write the flags of the compare. -/
theorem comparesWriteFlagsOnly : Obligations.ComparesWriteFlagsOnly := by
  refine ⟨?cmp, ?cpx, ?cpy, fun i s r h => ?completes⟩
  case cmp | cpx | cpy =>
    rw [formsOf_eq_rowFormsOf]
    decide
  case completes =>
    obtain ⟨read, reg, reg_eq, effect_eq⟩ := effectFor_compare h
    obtain ⟨m, operand_byte, completes⟩ := exec_read read (effect_eq i.operand) s
    have register : reg (afterFetch i s) = r := reg_eq i.length
    rw [register, compare_eq] at completes
    exact ⟨m, _, operand_byte, completes, rfl⟩

/-! ## Increment and decrement (R309 to R314) -/

/-- The mnemonics with forms of the read-modify-write class. -/
def modifyMnemonics : List Mnemonic :=
  [.ASL, .LSR, .ROL, .ROR, .INC, .DEC, .SLO, .RLA, .SRE, .RRA, .DCP, .ISC]

theorem not_delaying_of_modify : ∀ mn ∈ modifyMnemonics, mn ∉ [.PLP, .CLI, .SEI] := by decide

/-- Read-modify-write class: with `c` the result and the flags of the operand byte, the instruction sets the flags,
writes the result once at the effective address, and then does `after` with it. -/
theorem exec_modify {i : Instr} {compute : Byte → Flags → Byte × Flags} {after : Byte → State → State}
    {o : MemOperand} (h : i.mnemonic ∈ modifyMnemonics) (memory : i.operand = .memory o)
    (heffect : effectFor i.mnemonic i.operand = rmwEffect compute after) (s : State) :
    ∃ ea m, EffectiveAddr i s ea ∧ OperandByte i s m ∧
      let c := compute m s.flags
      exec i s = .next (afterEffect i s (after c.1 ({ afterFetch i s with flags := c.2 }.write ea c.1))) := by
  refine ⟨_, (afterFetch i s).read (effectiveAddr o (afterFetch i s)), effectiveAddr_of_memory memory s, ?byte, ?next⟩
  case byte =>
    simp only [OperandByte, memory]
  case next =>
    rw [exec_eq_afterEffect (not_delaying_of_modify _ h), effectOf, heffect, rmwEffect_default, memory]
    rfl

/-- What INC or DEC does to its byte. -/
def countByOne (mn : Mnemonic) (m : Byte) : Byte := if mn = .INC then m + 1#8 else m - 1#8

/-- INC and DEC have memory forms only, and N and Z are of their result. -/
theorem effectFor_count {i : Instr} (h : i.mnemonic = .INC ∨ i.mnemonic = .DEC) :
    i.mnemonic ∈ modifyMnemonics ∧ (∃ o, i.operand = .memory o) ∧
      effectFor i.mnemonic i.operand =
        rmwEffect (fun m f => (countByOne i.mnemonic m, f.setNZ (countByOne i.mnemonic m))) keepResult := by
  have operand := storeOperand_of_instr i
  obtain h | h := h <;> (rw [h] at operand ⊢; exact ⟨by decide, operand, rfl⟩)

/-- Settles O38: INC and DEC are one write of their result at their effective address. -/
theorem incAndDecChangeOneByte : Obligations.IncAndDecChangeOneByte := by
  refine ⟨?inc, ?dec, fun i s h => ?completes⟩
  case inc | dec =>
    rw [formsOf_eq_rowFormsOf]
    decide
  case completes =>
    obtain ⟨modify, ⟨o, memory⟩, effect_eq⟩ := effectFor_count h
    obtain ⟨ea, m, effective_addr, operand_byte, completes⟩ := exec_modify modify memory effect_eq s
    exact ⟨ea, m, _, effective_addr, operand_byte, completes, State.write_storesOnly (afterFetch i s) ea _, rfl⟩

/-- Settles O39: each of the four is of the register class. -/
theorem indexRegistersCountByOne : Obligations.IndexRegistersCountByOne := by
  refine ⟨?inx, ?iny, ?dex, ?dey, fun s => ?complete⟩
  case inx | iny | dex | dey =>
    rw [formsOf_eq_rowFormsOf]
    decide
  case complete =>
    exact ⟨exec_register (f := incrementX) (by decide) rfl s, exec_register (f := incrementY) (by decide) rfl s,
      exec_register (f := decrementX) (by decide) rfl s, exec_register (f := decrementY) (by decide) rfl s⟩

end Sys2Proof.Machine
end

section
/-! Shifts and rotates (spec/43_shift_rotate.md R350 to R353, R232): the bytes of the four as numbers, and each from
its effect on A or on a byte of memory. -/

namespace Sys2Proof.Machine

/-! ## The shifted byte as a number (R232) -/

theorem shl_one_eq_ofNat (v : Byte) : v <<< 1 = BitVec.ofNat 8 (2 * v.toNat) := by
  apply BitVec.eq_of_toNat_eq
  rw [BitVec.toNat_shiftLeft, BitVec.toNat_ofNat, Nat.shiftLeft_eq, pow_one, mul_comm]

theorem shr_one_eq_ofNat (v : Byte) : v >>> 1 = BitVec.ofNat 8 (v.toNat / 2) := by
  apply BitVec.eq_of_toNat_eq
  have v_lt : v.toNat < 256 := v.isLt
  rw [BitVec.toNat_ushiftRight, BitVec.toNat_ofNat, Nat.shiftRight_one]
  omega

theorem bitAt_true (k : Nat) : bitAt true k = BitVec.twoPow 8 k := by
  apply BitVec.eq_of_toNat_eq
  rw [BitVec.toNat_twoPow, bitAt, BitVec.toNat_ofNat, Bool.toNat_true, one_mul]

/-- To set a clear bit is to add its place value. -/
theorem or_bitAt_of_clear {v : Byte} {k : Nat} (clear : v.getLsbD k = false) (c : Bool) :
    v ||| bitAt c k = v + bitAt c k := by
  rw [BitVec.add_eq_or_of_and_eq_zero]
  cases c
  case false => simp [bitAt]
  case true => simp [bitAt_true, BitVec.and_twoPow, clear]

/-- The shift left leaves bit 0 clear, and the old carry fills it. -/
theorem rol_eq_ofNat (v : Byte) (c : Bool) : v <<< 1 ||| bitAt c 0 = BitVec.ofNat 8 (2 * v.toNat + c.toNat) := by
  have clear : (v <<< 1).getLsbD 0 = false := by simp
  rw [or_bitAt_of_clear clear, shl_one_eq_ofNat, bitAt, ← BitVec.ofNat_add, pow_zero, mul_one]

/-- The shift right leaves bit 7 clear, and the old carry fills it. -/
theorem ror_eq_ofNat (v : Byte) (c : Bool) : v >>> 1 ||| bitAt c 7 = BitVec.ofNat 8 (v.toNat / 2 + 128 * c.toNat) := by
  have clear : (v >>> 1).getLsbD 7 = false := by simp
  rw [or_bitAt_of_clear clear, shr_one_eq_ofNat, bitAt, ← BitVec.ofNat_add, mul_comm]
  rfl

/-! ## The four, by mnemonic -/

/-- The byte of a shift or rotate: the bits move one place, and a rotate takes the old carry in. -/
def shiftedByte (mn : Mnemonic) (m : Byte) (carry : Bool) : Byte :=
  let carryIn := if mn = .ROL ∨ mn = .ROR then carry.toNat else 0
  BitVec.ofNat 8 (if mn = .ASL ∨ mn = .ROL then 2 * m.toNat + carryIn else m.toNat / 2 + 128 * carryIn)

/-- A shift or rotate: N and Z are of the result, and C is the bit shifted out. -/
def shiftByOne (mn : Mnemonic) (m : Byte) (f : Flags) : Byte × Flags :=
  let r := shiftedByte mn m f.c
  (r, { f.setNZ r with c := if mn = .ASL ∨ mn = .ROL then m.getLsbD 7 else m.getLsbD 0 })

theorem shiftLeft_eq_shiftByOne : shiftLeft = shiftByOne .ASL := by
  funext v f
  simp only [shiftLeft, shl_one_eq_ofNat]
  rfl

theorem shiftRight_eq_shiftByOne : shiftRight = shiftByOne .LSR := by
  funext v f
  simp only [shiftRight, shr_one_eq_ofNat]
  rfl

theorem rotateLeft_eq_shiftByOne : rotateLeft = shiftByOne .ROL := by
  funext v f
  simp only [rotateLeft, rol_eq_ofNat]
  rfl

theorem rotateRight_eq_shiftByOne : rotateRight = shiftByOne .ROR := by
  funext v f
  simp only [rotateRight, ror_eq_ofNat]
  rfl

theorem effectFor_shift {mn : Mnemonic} (h : mn = .ASL ∨ mn = .LSR ∨ mn = .ROL ∨ mn = .ROR) (o : Operand) :
    mn ∈ modifyMnemonics ∧ effectFor mn o = shiftClass (shiftByOne mn) o := by
  obtain rfl | rfl | rfl | rfl := h
  · exact ⟨by decide, congrArg (shiftClass · o) shiftLeft_eq_shiftByOne⟩
  · exact ⟨by decide, congrArg (shiftClass · o) shiftRight_eq_shiftByOne⟩
  · exact ⟨by decide, congrArg (shiftClass · o) rotateLeft_eq_shiftByOne⟩
  · exact ⟨by decide, congrArg (shiftClass · o) rotateRight_eq_shiftByOne⟩

section Forms

variable {i : Instr} (h : i.mnemonic = .ASL ∨ i.mnemonic = .LSR ∨ i.mnemonic = .ROL ∨ i.mnemonic = .ROR)

include h

/-- An accumulator form shifts A. -/
theorem exec_shift_accumulator (on_a : i.operand = .accumulator) (s : State) :
    let c := shiftByOne i.mnemonic s.a s.flags
    exec i s = .next (afterEffect i s { afterFetch i s with a := c.1, flags := c.2 }) := by
  obtain ⟨modify, effect_eq⟩ := effectFor_shift h i.operand
  rw [on_a] at effect_eq
  exact exec_register (not_delaying_of_modify _ modify) (by rw [on_a, effect_eq]; rfl) s

/-- A memory form writes the shifted byte once, at its effective address. -/
theorem exec_shift_memory (off_a : i.operand ≠ .accumulator) (s : State) :
    ∃ ea m, EffectiveAddr i s ea ∧ OperandByte i s m ∧
      let c := shiftByOne i.mnemonic m s.flags
      exec i s = .next (afterEffect i s ({ afterFetch i s with flags := c.2 }.write ea c.1)) := by
  obtain ⟨modify, effect_eq⟩ := effectFor_shift h i.operand
  obtain ⟨-, -, on_a | ⟨o, memory⟩⟩ := dataAccesses_modify s (dataOperand_of_instr i) modify
  · exact absurd on_a off_a
  · exact exec_modify modify memory (after := keepResult) (by rw [effect_eq, memory]; rfl) s

end Forms

/-! ## The statement -/

/-- Settles O40: an accumulator form is of the register class, a memory form of the read-modify-write class, and both
move the bits by `shiftByOne`. -/
theorem shiftsMoveABit : Obligations.ShiftsMoveABit := by
  refine ⟨?asl, ?lsr, ?rol, ?ror, fun s => ?accumulator, fun i s off_a h => ?memory⟩
  case asl | lsr | rol | ror =>
    rw [formsOf_eq_rowFormsOf]
    decide
  case accumulator =>
    exact ⟨exec_shift_accumulator (i := .aslAcc) (by decide) rfl s,
      exec_shift_accumulator (i := .lsrAcc) (by decide) rfl s,
      exec_shift_accumulator (i := .rolAcc) (by decide) rfl s,
      exec_shift_accumulator (i := .rorAcc) (by decide) rfl s⟩
  case memory =>
    obtain ⟨ea, m, effective_addr, operand_byte, completes⟩ := exec_shift_memory h off_a s
    exact ⟨ea, m, _, effective_addr, operand_byte, completes, State.write_storesOnly (afterFetch i s) ea _, rfl⟩

end Sys2Proof.Machine
end

section
/-! Branches, jumps and subroutines (spec/44_control_flow.md R400 to R412), each from its effect: the cycles of a branch
from the two conditions it counts by, and what a call pushes and a return pulls. -/

namespace Sys2Proof.Machine

/-! ## A control instruction from its effect -/

/-- The mnemonics of spec/44_control_flow.md. -/
def controlMnemonics : List Mnemonic := [.BPL, .BMI, .BVC, .BVS, .BCC, .BCS, .BNE, .BEQ, .JMP, .JSR, .RTS]

/-- The count of R219, with the extra cycles those that the effect reports. -/
theorem cyclesAfter_eq_cycleCount (i : Instr) (s : State) :
    cyclesAfter i s = s.cycles + BitVec.ofNat 64 (cycleCount i.opcode
      (resolve i.operand (afterFetch i s)).crossed (effectOf i.mnemonic i.operand (afterFetch i s)).2) := by
  rw [← afterInstruction_cycles, afterInstruction, finish_cycles, effectOf_cycles]
  rfl

theorem not_delaying_of_control : ∀ mn ∈ controlMnemonics, mn ∉ [.PLP, .CLI, .SEI] := by decide

/-- The page-cross penalty is of the read class alone (spec/40_execution.md R220). -/
theorem no_penalty_of_control {i : Instr} (h : i.mnemonic ∈ controlMnemonics) :
    (descriptor i.opcode).penalty = false := by
  have not_read : ∀ mn ∈ controlMnemonics, mn ∉ readMnemonics ++ [.NOP] := by decide
  obtain ⟨-, penalty_iff⟩ := penaltyOpcodesAreTheSpecsList
  rw [← Bool.not_eq_true, penalty_iff i]
  exact fun ⟨read, _⟩ => not_read _ h read

/-- A control instruction ends where its effect leaves it, after the base cycles and those of the effect. -/
theorem exec_control {i : Instr} {s t : State} {extra : Nat} (h : i.mnemonic ∈ controlMnemonics)
    (heffect : effectOf i.mnemonic i.operand (afterFetch i s) = (t, extra)) :
    exec i s = .next { t with
      iPoll := t.flags.i, cycles := s.cycles + BitVec.ofNat 64 ((descriptor i.opcode).base + extra) } := by
  have count_eq (crossed : Bool) : cycleCount i.opcode crossed extra = (descriptor i.opcode).base + extra := by
    simp only [cycleCount, no_penalty_of_control h, Bool.false_and, Bool.false_eq_true, if_false, add_zero]
  rw [exec_eq_afterEffect (not_delaying_of_control _ h), afterEffect, cyclesAfter_eq_cycleCount, heffect, count_eq]

/-! ## Branches (R400 to R408) -/

/-- The relative mode is the branches', whose base is 2 cycles. -/
theorem descriptorRow_relative (hi lo : Nibble) (h : (descriptorRow hi lo).mode = .relative) :
    (descriptorRow hi lo).mnemonic ∈ controlMnemonics ∧ (descriptorRow hi lo).base = 2 := by
  revert h
  cases hi <;> cases lo <;> decide

/-- The effect of a branch: PC is the target when the condition holds, and the extra cycles are by the page test. -/
theorem branchEffect_eq (cond : Flags → Bool) (bus : Bus) (r : Resolved) (s : State) :
    branchEffect cond bus r s =
      ({ s with pc := if cond s.flags then r.addr else s.pc },
        if cond s.flags then (if r.crossed then 2 else 1) else 0) := by
  cases taken : cond s.flags <;> simp only [branchEffect, taken] <;> rfl

/-- The extra cycles of a branch, with the page test on the high bytes as numbers. -/
theorem ofNat_branchExtra (taken : Bool) (target next : Addr) :
    BitVec.ofNat 64 (if taken then (if otherPage target next then 2 else 1) else 0) =
      if taken then (if target.toNat / 256 = next.toNat / 256 then 1#64 else 2#64) else 0#64 := by
  cases taken
  case false => rfl
  case true =>
    simp only [otherPage_eq_decide, decide_eq_true_eq, ite_not, if_true]
    split <;> rfl

/-- A branch goes by its condition, which the fetches leave as it was; the page test is of the target and the byte
after the branch. -/
theorem exec_branch {i : Instr} {disp : Int} (cond : Flags → Bool) (relative : i.operand = .relative disp)
    (heffect : effectFor i.mnemonic i.operand = branchEffect cond) (s : State) :
    let next := s.pc + 2#16
    let target := next + BitVec.ofInt 16 disp
    let extra : BitVec 64 := if target.toNat / 256 = next.toNat / 256 then 1#64 else 2#64
    exec i s = .next { s with
      pc := if cond s.flags then target else next
      iPoll := s.flags.i
      cycles := s.cycles + 2#64 + (if cond s.flags then extra else 0#64) } := by
  intro next target extra
  obtain ⟨mnemonic_eq, mode_eq⟩ := descriptor_opcode i
  obtain ⟨control, base_eq⟩ := descriptorRow_relative _ _ (mode_eq.trans (congrArg Operand.mode relative))
  have two_bytes : afterFetch i s = s.advance 2 := by rw [afterFetch, Instr.length, relative]; rfl
  have effect_eq : effectOf i.mnemonic i.operand (afterFetch i s) =
      ({ s with pc := if cond s.flags then target else next },
        if cond s.flags then (if otherPage target next then 2 else 1) else 0) := by
    rw [effectOf, heffect, relative, two_bytes, branchEffect_eq]
    rfl
  rw [exec_control (mnemonic_eq ▸ control) effect_eq, descriptor, base_eq, BitVec.ofNat_add, ← BitVec.add_assoc,
    ofNat_branchExtra]

/-- Settles O41: each of the eight is `Branch` of its own condition. -/
theorem branchesGoToTheirTarget : Obligations.BranchesGoToTheirTarget := by
  refine ⟨?bpl, ?bmi, ?bvc, ?bvs, ?bcc, ?bcs, ?bne, ?beq, fun s disp => ?complete⟩
  case bpl | bmi | bvc | bvs | bcc | bcs | bne | beq =>
    rw [formsOf_eq_rowFormsOf]
    decide
  case complete =>
    exact ⟨exec_branch (i := .bpl disp) (fun f => !f.n) rfl rfl s,
      exec_branch (i := .bmi disp) (fun f => f.n) rfl rfl s,
      exec_branch (i := .bvc disp) (fun f => !f.v) rfl rfl s,
      exec_branch (i := .bvs disp) (fun f => f.v) rfl rfl s,
      exec_branch (i := .bcc disp) (fun f => !f.c) rfl rfl s,
      exec_branch (i := .bcs disp) (fun f => f.c) rfl rfl s,
      exec_branch (i := .bne disp) (fun f => !f.z) rfl rfl s,
      exec_branch (i := .beq disp) (fun f => f.z) rfl rfl s⟩

/-! ## Jumps and subroutines (R409 to R412) -/

/-- `ReadJmpInd` (spec/20_memory.md R109), its pointer not leaving its page. -/
theorem readJmpInd_eq_append (s : State) (p : Addr) :
    s.readJmpInd p = s.read ((p &&& 0xFF00#16) ||| ((p + 1#16) &&& 0xFF#16)) ++ s.read p := by
  rw [State.readJmpInd_eq, jumpHighAt_eq]
  rfl

/-- Settles O42: PC is the effective address, which for the indirect form is `ReadJmpInd` of the pointer. -/
theorem jumpsGoToTheirTarget : Obligations.JumpsGoToTheirTarget := by
  have jump_control : Mnemonic.JMP ∈ controlMnemonics := by decide
  refine ⟨?forms, fun s target => ⟨?absolute, rfl, ?indirect⟩⟩
  case forms =>
    rw [formsOf_eq_rowFormsOf]
    decide
  case absolute =>
    rw [exec_control (i := .jmpAbs target) jump_control rfl, Instr.opcode]
    rfl
  case indirect =>
    rw [exec_control (i := .jmpInd target) jump_control rfl, Instr.opcode, ← readJmpInd_eq_append]
    rfl

/-- The push of an address writes its two slots alone, the high byte above the low one (spec/20_memory.md R110). -/
theorem push16_read_slots (s : State) (p : Addr) :
    (s.push16 p).read (stackAddr s.sp) = highByte p ∧
      (s.push16 p).read (stackAddr (s.sp - 1#8)) = lowByte p ∧
      KeepsOutside2 s (s.push16 p) (stackAddr s.sp) (stackAddr (s.sp - 1#8)) := by
  have slots_differ : stackAddr s.sp ≠ stackAddr (s.sp - 1#8) := by
    rw [Ne, stackAddr_inj]
    generalize s.sp = sp
    bv_omega
  refine ⟨?high, ?low, fun a off_high off_low => ?outside⟩
  case high => rw [State.read_push16, if_neg slots_differ, if_pos rfl]
  case low => rw [State.read_push16, if_pos rfl]
  case outside => rw [State.read_push16, if_neg off_low, if_neg off_high]

/-- JSR pushes the address of its last byte and goes to its target. -/
theorem exec_jsr (target : Addr) (s : State) :
    exec (.jsr target) s = .next { s.push16 (s.pc + 2#16) with
      sp := s.sp - 2#8, pc := target, iPoll := s.flags.i, cycles := s.cycles + 6#64 } := by
  have last_byte : s.pc + 2#16 = (afterFetch (.jsr target) s).pc - 1#16 := by
    rw [afterFetch_pc (mode := .absolute) rfl]
    generalize s.pc = pc
    simp only [Mode.length]
    bv_omega
  have two_pushes : s.sp - 2#8 = s.sp - 1#8 - 1#8 := by
    generalize s.sp = sp
    bv_omega
  have call_control : Mnemonic.JSR ∈ controlMnemonics := by decide
  rw [exec_control (i := .jsr target) call_control rfl, Instr.opcode, last_byte, two_pushes]
  rfl

/-- Settles O43: JSR's writes are the two slots of one pushed address. -/
theorem jsrPushesAndJumps : Obligations.JsrPushesAndJumps := by
  refine ⟨?forms, fun s target => ?completes⟩
  case forms =>
    rw [formsOf_eq_rowFormsOf]
    decide
  case completes =>
    obtain ⟨high, low, outside⟩ := push16_read_slots s (s.pc + 2#16)
    exact ⟨_, exec_jsr target s, high, low, outside, rfl⟩

/-- Settles O44: RTS pulls two bytes, and the pulls change nothing but SP. -/
theorem rtsPullsAndReturns : Obligations.RtsPullsAndReturns := by
  refine ⟨?forms, fun s => ?completes⟩
  case forms =>
    rw [formsOf_eq_rowFormsOf]
    decide
  case completes =>
    have two_pulls : s.sp + 1#8 + 1#8 = s.sp + 2#8 := BitVec.add_assoc ..
    rw [exec_control (by decide) rfl, ← two_pulls]
    rfl

/-- Settles O45: RTS pulls the two slots of the address that JSR pushed, and adds the one that JSR left out. -/
theorem callThenReturnComesBack : Obligations.CallThenReturnComesBack := by
  intro s t h target hcall hsp kept
  obtain ⟨-, rts_eq⟩ := rtsPullsAndReturns
  obtain ⟨-, jsr_completes⟩ := jsrPushesAndJumps
  obtain ⟨t', hcall', high, low, -, t_eq⟩ := jsr_completes s target
  obtain rfl : t = t' := Host.Outcome.next.inj (hcall.symm.trans hcall')
  have t_sp : t.sp = s.sp - 2#8 := congrArg State.sp t_eq
  have low_slot : t.sp + 1#8 = s.sp - 1#8 := by
    rw [t_sp]
    generalize s.sp = sp
    bv_omega
  have high_slot : t.sp + 2#8 = s.sp := by rw [t_sp, BitVec.sub_add_cancel]
  have pulled : word16 (h.read (stackAddr (h.sp + 1#8))) (h.read (stackAddr (h.sp + 2#8))) = s.pc + 2#16 := by
    rw [hsp, kept _ (.inl rfl), kept _ (.inr rfl), low_slot, high_slot, low, high, word16_lowByte_highByte]
  refine ⟨_, rts_eq h, ?pc, ?sp, fun _ => rfl⟩
  case pc =>
    calc word16 (h.read (stackAddr (h.sp + 1#8))) (h.read (stackAddr (h.sp + 2#8))) + 1#16
      _ = s.pc + 2#16 + 1#16 := by rw [pulled]
      _ = s.pc + 3#16 := BitVec.add_assoc ..
  case sp => exact (congrArg (· + 2#8) hsp).trans high_slot

end Sys2Proof.Machine
end

section
/-! Stack, flag and system instructions (spec/45_stack_flag_system.md R450 to R463) and the NOPs of
spec/47_undocumented.md R571 and R572, each from its effect. -/

namespace Sys2Proof.Machine

/-! ## The three instructions that delay the mask (spec/10_state.md R66) -/

/-- PLP, CLI and SEI complete at the end of their effect, with I_poll the I from before them. -/
theorem exec_delaying {i : Instr} (h : delaysMask i.opcode = true) (s : State) :
    exec i s = .next { (effectOf i.mnemonic i.operand (afterFetch i s)).1 with
      iPoll := s.flags.i, cycles := cyclesAfter i s } := by
  rw [exec_eq, ← afterInstruction_cycles]
  simp only [afterInstruction, finish, h]
  rfl

/-- Any other instruction, from the state that its effect leaves. -/
theorem exec_of_effect {i : Instr} {s t : State} (h : i.mnemonic ∉ [.PLP, .CLI, .SEI])
    (heffect : (effectOf i.mnemonic i.operand (afterFetch i s)).1 = t) :
    exec i s = .next { t with iPoll := t.flags.i, cycles := cyclesAfter i s } := by
  rw [exec_eq_afterEffect h, heffect, afterEffect]

/-! ## Pushes and pulls (R450 to R453) -/

/-- A slot of the stack is the OR of the stack page and SP (spec/20_memory.md R112). -/
theorem stackAddr_eq_or (sp : Byte) : stackAddr sp = 0x0100#16 ||| BitVec.setWidth 16 sp := by
  revert sp
  decide

/-- A push writes its slot and no other byte. -/
theorem State.push_storesOnly (s : State) (v : Byte) :
    StoresOnly s (s.push v) (0x0100#16 ||| BitVec.setWidth 16 s.sp) v := by
  rw [← stackAddr_eq_or]
  exact s.write_storesOnly (stackAddr s.sp) v

/-- The bits of `PackP` (spec/10_state.md R57): the flags that `UnpackP` gives back, and the two bits it ignores. -/
theorem Flags.getLsbD_pack (f : Flags) (bit4 : Bool) :
    (f.pack bit4).getLsbD 7 = f.n ∧ (f.pack bit4).getLsbD 6 = f.v ∧ (f.pack bit4).getLsbD 5 = true ∧
      (f.pack bit4).getLsbD 4 = bit4 ∧ (f.pack bit4).getLsbD 3 = f.d ∧ (f.pack bit4).getLsbD 2 = f.i ∧
      (f.pack bit4).getLsbD 1 = f.z ∧ (f.pack bit4).getLsbD 0 = f.c := by
  obtain ⟨c, z, i, d, b, v, n⟩ := f
  revert c z i d b v n bit4
  decide

/-- Settles O46: each is one push. -/
theorem pushesStoreOneByte : Obligations.PushesStoreOneByte := by
  refine ⟨?pha, ?php, fun s => ⟨?accumulator, ?status⟩⟩
  case pha | php =>
    rw [formsOf_eq_rowFormsOf]
    decide
  case accumulator =>
    exact ⟨_, exec_eq_afterEffect (i := .pha) (by decide) s, (afterFetch .pha s).push_storesOnly s.a, rfl⟩
  case status =>
    obtain ⟨n, v, five, four, d, i, z, c⟩ := s.flags.getLsbD_pack true
    exact ⟨_, s.flags.pack true, exec_eq_afterEffect (i := .php) (by decide) s,
      (afterFetch .php s).push_storesOnly (s.flags.pack true), n, v, five, four, d, i, z, c, rfl⟩

/-- Settles O47: each is one pull, and PLP delays the mask. -/
theorem pullsLoadOneByte : Obligations.PullsLoadOneByte := by
  refine ⟨?pla, ?plp, fun s => ?complete⟩
  case pla | plp =>
    rw [formsOf_eq_rowFormsOf]
    decide
  case complete =>
    rw [← stackAddr_eq_or]
    exact ⟨exec_eq_afterEffect (i := .pla) (by decide) s, exec_delaying (i := .plp) (by decide) s⟩

/-! ## Flags (R454 to R460) -/

/-- Settles O48: each is of the register class, and CLI and SEI delay the mask. -/
theorem flagInstructionsWriteOneFlag : Obligations.FlagInstructionsWriteOneFlag := by
  refine ⟨?clc, ?sec, ?cli, ?sei, ?cld, ?sed, ?clv, fun s => ?complete⟩
  case clc | sec | cli | sei | cld | sed | clv =>
    rw [formsOf_eq_rowFormsOf]
    decide
  case complete =>
    exact ⟨exec_register (f := clearCarry) (by decide) rfl s, exec_register (f := setCarry) (by decide) rfl s,
      exec_delaying (i := .cli) (by decide) s, exec_delaying (i := .sei) (by decide) s,
      exec_register (f := clearDecimal) (by decide) rfl s, exec_register (f := setDecimal) (by decide) rfl s,
      exec_register (f := clearOverflow) (by decide) rfl s⟩

/-! ## NOP (R461, R571, R572) -/

/-- A NOP's effect leaves the state as it was: its operand's byte is discarded. -/
theorem effectOf_nop (o : Operand) (s : State) : effectOf .NOP o s = (s, 0) := by
  cases o <;> rfl

/-- The modes that read a pointer are not a NOP's. -/
theorem descriptorRow_nop_mode (hi lo : Nibble) : (descriptorRow hi lo).mnemonic = .NOP →
    (descriptorRow hi lo).mode ∉ [.indirect, .indirectX, .indirectY] := by
  cases hi <;> cases lo <;> decide

theorem pointerAccesses_eq_nil {o : Operand} (h : o.mode ∉ [.indirect, .indirectX, .indirectY]) (s : State) :
    pointerAccesses o s = [] := by
  cases o with
  | memory m =>
    cases m with
    | indexed ix =>
      cases ix with
      | indirectY => simp [Operand.mode] at h
      | _ => rfl
    | indirectX => simp [Operand.mode] at h
    | _ => rfl
  | indirect => simp [Operand.mode] at h
  | _ => rfl

/-- After its fetches a NOP makes the one read of the read class, or none. -/
theorem executionAccesses_nop {i : Instr} (h : i.mnemonic = .NOP) (s : State) :
    executionAccesses i s = readAt i.operand (afterFetch i s) := by
  obtain ⟨mnemonic_eq, mode_eq⟩ := descriptor_opcode i
  have no_pointer := descriptorRow_nop_mode _ _ (mnemonic_eq.trans h)
  rw [executionAccesses, pointerAccesses_eq_nil (mode_eq ▸ no_pointer), h]
  rfl

/-- Settles O49: a NOP's effect is none, and its accesses are those of the read class. -/
theorem nopsDoNothing : Obligations.NopsDoNothing := by
  refine ⟨?forms, fun i s h => ⟨?completes, fun ea effective => ?memory, fun operand => ?others⟩⟩
  case forms =>
    rw [formsOf_eq_rowFormsOf]
    decide
  case completes =>
    rw [exec_eq_afterEffect (by rw [h]; decide), h, effectOf_nop]
    rfl
  case memory =>
    obtain implied | ⟨v, immediate⟩ | ⟨m, memory⟩ := h ▸ dataOperand_of_instr i
    · simp only [EffectiveAddr, implied] at effective
    · simp only [EffectiveAddr, immediate] at effective
    · simp only [EffectiveAddr, memory] at effective
      rw [executionAccesses_nop h, memory, effective]
      rfl
  case others =>
    obtain no_address | ⟨v, no_address⟩ := operand <;> (rw [executionAccesses_nop h, no_address]; rfl)

/-! ## BRK and RTI (R462, R463) -/

/-- The state after the entry sequence, but for its pushes. -/
theorem interruptEntry_eq_mem (breakBit : Bool) {vector : Addr} (h0 : 0xFF00#16 ≤ vector)
    (h1 : 0xFF00#16 ≤ vector + 1#16) (s : State) :
    interruptEntry breakBit vector s = { s with
      sp := s.sp - 3#8
      flags := { s.flags with i := true }
      iPoll := true
      pc := word16 (s.read vector) (s.read (vector + 1#16))
      mem := (interruptEntry breakBit vector s).mem } := by
  rw [← interruptEntry_pc breakBit vector s h0 h1, ← interruptEntry_sp breakBit vector s, interruptEntry_eq]
  generalize State.read16 _ vector = target
  rw [State.push_eq, State.push16_eq, State.push_eq, State.push_eq]

/-- The three slots of an entry's pushes are distinct. -/
theorem entrySlots_differ (sp : Byte) :
    stackAddr sp ≠ stackAddr (sp - 1#8) ∧ stackAddr sp ≠ stackAddr (sp - 2#8) ∧
      stackAddr (sp - 1#8) ≠ stackAddr (sp - 2#8) := by
  simp only [Ne, stackAddr_inj]
  bv_omega

/-- The entry sequence (spec/60_exceptions.md R605) from the return address, whatever is counted for it. -/
theorem interruptEntry_entered (breakBit : Bool) {vector : Addr} (h0 : 0xFF00#16 ≤ vector)
    (h1 : 0xFF00#16 ≤ vector + 1#16) (s : State) (count : CycleCount) :
    Entered breakBit vector s.pc s { interruptEntry breakBit vector s with cycles := count } := by
  obtain ⟨first_second, first_third, second_third⟩ := entrySlots_differ s.sp
  have read_eq := interruptEntry_read breakBit vector s
  refine ⟨(read_eq _).trans ?high, (read_eq _).trans ?low, (read_eq _).trans ?status,
    fun a off_high off_low off_status => (read_eq a).trans ?outside, ?rest⟩
  case high => rw [if_neg first_third, if_neg first_second, if_pos rfl]
  case low => rw [if_neg second_third, if_pos rfl]
  case status => rw [if_pos rfl]
  case outside => rw [if_neg off_status, if_neg off_low, if_neg off_high]
  case rest => rw [interruptEntry_eq_mem breakBit h0 h1]

/-- BRK is the entry sequence from the address past its signature byte. -/
theorem exec_brk (s : State) :
    exec .brk s = .next { interruptEntry true irqVector { s with pc := s.pc + 2#16 } with
      cycles := s.cycles + 7#64 } := by
  have past_signature : s.pc + 1#16 + 1#16 = s.pc + 2#16 := BitVec.add_assoc ..
  have effect_eq : (effectOf .BRK .implied (afterFetch .brk s)).1 =
      interruptEntry true irqVector { s with pc := s.pc + 2#16 } := by
    rw [← past_signature]
    rfl
  have poll_eq (u : State) : (interruptEntry true irqVector u).flags.i = (interruptEntry true irqVector u).iPoll := by
    rw [interruptEntry_flags, interruptEntry_iPoll]
  rw [exec_of_effect (i := .brk) (by decide) effect_eq, poll_eq]
  rfl

/-- BRK's fetch is of its opcode alone. -/
theorem fetchAccesses_brk (s : State) : fetchAccesses .brk s = [.read s.pc] :=
  congrArg ([Access.read ·]) (BitVec.add_zero s.pc)

/-- Settles O50: the entry is that of `exec_brk`, and the signature byte is in no list of accesses. -/
theorem brkEntersTheHandler : Obligations.BrkEntersTheHandler := by
  refine ⟨?forms, fun s => ?completes⟩
  case forms =>
    rw [formsOf_eq_rowFormsOf]
    decide
  case completes =>
    obtain ⟨nmi_kept, irq_kept, -⟩ := instructionsKeepLatchesAndOnlyJamHalts _ _ _ (exec_brk s)
    refine ⟨_, exec_brk s, ?entered, nmi_kept, irq_kept, rfl, ?reads⟩
    case entered =>
      exact interruptEntry_entered true (by decide) (by decide) { s with pc := s.pc + 2#16 } _
    case reads =>
      have execution_eq : executionAccesses .brk s = _ := dataAccesses_brk (i := .brk) rfl s
      rw [instrAccesses, fetchAccesses_brk, execution_eq]
      rfl

/-- The return (spec/60_exceptions.md R608), from the bytes of the three slots it pulls. -/
theorem returnFromInterruptOn_eq (s : State) : returnFromInterruptOn Config.bus s = { s with
    sp := s.sp + 3#8
    flags := Flags.unpack (s.read (stackAddr (s.sp + 1#8)))
    pc := word16 (s.read (stackAddr (s.sp + 2#8))) (s.read (stackAddr (s.sp + 3#8))) } := by
  have second : s.sp + 1#8 + 1#8 = s.sp + 2#8 := BitVec.add_assoc ..
  have third : s.sp + 2#8 + 1#8 = s.sp + 3#8 := BitVec.add_assoc ..
  rw [← third, ← second]
  rfl

/-- Settles O51: RTI's effect is the return, and it does not delay the mask. -/
theorem rtiRestoresFlagsAndPC : Obligations.RtiRestoresFlagsAndPC := by
  refine ⟨?forms, fun s => ?completes⟩
  case forms =>
    rw [formsOf_eq_rowFormsOf]
    decide
  case completes =>
    exact exec_of_effect (i := .rti) (by decide) (returnFromInterruptOn_eq (afterFetch .rti s))

end Sys2Proof.Machine
end

section
/-! The undocumented opcodes (spec/47_undocumented.md R550 to R570, R573), each from its effect: the ones that modify a
byte and combine A with it, the immediates, the unstable stores and JAM. -/

namespace Sys2Proof.Machine

/-! ## Modify a byte, then combine A with it (R550 to R553, R556, R557) -/

/-- The mnemonics that write a modified byte and then change A and the flags by it. -/
def combineMnemonics : List Mnemonic := [.SLO, .RLA, .SRE, .RRA, .DCP, .ISC]

theorem modify_of_combine {i : Instr} (h : i.mnemonic ∈ combineMnemonics) :
    i.mnemonic ∈ modifyMnemonics ∧ ∃ o, i.operand = .memory o := by
  have operand := storeOperand_of_instr i
  generalize i.mnemonic = mn at h operand ⊢
  fin_cases h <;> exact ⟨by decide, operand⟩

/-- What such a mnemonic does after its write: `combine` gives A and the flags, from the written byte and those two. -/
def updateA (combine : Byte → Byte → Flags → Byte × Flags) (r : Byte) (s : State) : State :=
  { s with a := (combine r s.a s.flags).1, flags := (combine r s.a s.flags).2 }

/-- Such an instruction writes the modified byte `byte m` once, at its effective address, and A and the flags become
`result m`. -/
theorem exec_modifyThenCombine {i : Instr} {s : State} {byte : Byte → Byte} {result : Byte → Byte × Flags}
    (h : i.mnemonic ∈ combineMnemonics)
    (heffect : ∃ compute combine, effectFor i.mnemonic i.operand = rmwEffect compute (updateA combine) ∧
      ∀ m, (compute m s.flags).1 = byte m ∧ combine (byte m) s.a (compute m s.flags).2 = result m) :
    ∃ ea m t, EffectiveAddr i s ea ∧ OperandByte i s m ∧ exec i s = .next t ∧ StoresOnly s t ea (byte m) ∧
      t = { s with
        a := (result m).1, flags := (result m).2
        pc := s.pc + BitVec.ofNat 16 i.length, iPoll := (result m).2.i, cycles := cyclesAfter i s, mem := t.mem } := by
  obtain ⟨modify, o, memory⟩ := modify_of_combine h
  obtain ⟨compute, combine, effect_eq, results⟩ := heffect
  obtain ⟨ea, m, effective_addr, operand_byte, completes⟩ := exec_modify modify memory effect_eq s
  obtain ⟨byte_eq, result_eq⟩ := results m
  refine ⟨ea, m, _, effective_addr, operand_byte, completes, ?_⟩
  rw [← result_eq, ← byte_eq]
  exact ⟨State.write_storesOnly (afterFetch i s) ea _, rfl⟩

/-- SLO, RLA and SRE shift or rotate the byte, and load A with OR, AND or EOR; C stays the bit shifted out. -/
theorem effectFor_shiftAndCombine {mn : Mnemonic} (h : mn = .SLO ∨ mn = .RLA ∨ mn = .SRE) (o : Operand) (s : State) :
    mn ∈ combineMnemonics ∧ ∃ compute combine,
      effectFor mn o = rmwEffect compute (updateA combine) ∧ ∀ m : Byte,
        let r : Byte :=
          if mn = .SLO then m <<< 1
          else if mn = .RLA then BitVec.ofNat 8 (2 * m.toNat + s.flags.c.toNat)
          else m >>> 1
        let v : Byte := if mn = .SLO then s.a ||| r else if mn = .RLA then s.a &&& r else s.a ^^^ r
        (compute m s.flags).1 = r ∧ combine r s.a (compute m s.flags).2 = (v, { s.flags with
          c := if mn = .SRE then m.getLsbD 0 else m.getLsbD 7, z := decide (v = 0#8), n := v.msb }) := by
  obtain rfl | rfl | rfl := h
  · exact ⟨by decide, shiftLeft, fun r a f => (a ||| r, f.setNZ (a ||| r)), rfl, fun _ => ⟨rfl, rfl⟩⟩
  · exact ⟨by decide, rotateLeft, fun r a f => (a &&& r, f.setNZ (a &&& r)), rfl,
      fun m => ⟨rol_eq_ofNat m s.flags.c, rfl⟩⟩
  · exact ⟨by decide, shiftRight, fun r a f => (a ^^^ r, f.setNZ (a ^^^ r)), rfl, fun _ => ⟨rfl, rfl⟩⟩

/-- Settles O53: the three modify a byte and combine A with it. -/
theorem shiftAndCombineOpcodes : Obligations.ShiftAndCombineOpcodes := by
  refine ⟨?slo, ?rla, ?sre, fun i s h => ?completes⟩
  case slo | rla | sre =>
    rw [formsOf_eq_rowFormsOf]
    decide
  case completes =>
    obtain ⟨combines, effect⟩ := effectFor_shiftAndCombine h i.operand s
    exact exec_modifyThenCombine combines effect

/-- RRA adds the rotated byte with the rotate's carry out, ISC subtracts the incremented byte with C; without the
decimal adder both are binary (R230). -/
theorem effectFor_rotateAddOrIncrementSubtract {mn : Mnemonic} (h : mn = .RRA ∨ mn = .ISC) (o : Operand) (s : State) :
    mn ∈ combineMnemonics ∧ ∃ compute combine,
      effectFor mn o = rmwEffect compute (updateA combine) ∧ ∀ m : Byte,
        let r : Byte := if mn = .RRA then BitVec.ofNat 8 (m.toNat / 2 + 128 * s.flags.c.toNat) else m + 1#8
        let sum := if mn = .RRA then addBinary s.a r (m.getLsbD 0) else subBinary s.a r s.flags.c
        (compute m s.flags).1 = r ∧ combine r s.a (compute m s.flags).2 = (sum.value, s.flags.setArith sum) := by
  obtain rfl | rfl := h
  · have after_eq : addToA = updateA fun r a f => ((addBinary a r f.c).value, f.setArith (addBinary a r f.c)) := by
      funext r s
      exact addToA_eq_addBinary r s
    exact ⟨by decide, rotateRight, _, congrArg (rmwEffect rotateRight) after_eq,
      fun m => ⟨ror_eq_ofNat m s.flags.c, rfl⟩⟩
  · have after_eq : subFromA = updateA fun r a f => ((subBinary a r f.c).value, f.setArith (subBinary a r f.c)) := by
      funext r s
      exact subFromA_eq_subBinary r s
    exact ⟨by decide, incrementOnly, _, congrArg (rmwEffect incrementOnly) after_eq, fun _ => ⟨rfl, rfl⟩⟩

/-- Settles O54: both modify a byte and combine A with it. -/
theorem rotateAddAndIncrementSubtractOpcodes : Obligations.RotateAddAndIncrementSubtractOpcodes := by
  refine ⟨?rra, ?isc, fun i s h => ?completes⟩
  case rra | isc =>
    rw [formsOf_eq_rowFormsOf]
    decide
  case completes =>
    obtain ⟨combines, effect⟩ := effectFor_rotateAddOrIncrementSubtract h i.operand s
    exact exec_modifyThenCombine combines effect

/-- Settles O55: DCP modifies a byte, keeps A, and sets the flags of A's compare with the modified byte. -/
theorem decrementCompareOpcode : Obligations.DecrementCompareOpcode := by
  refine ⟨?forms, fun i s h => ?completes⟩
  case forms =>
    rw [formsOf_eq_rowFormsOf]
    decide
  case completes =>
    have effect_eq : effectFor i.mnemonic i.operand =
        rmwEffect decrementOnly (updateA fun r a f => (a, f.compare a r)) := by rw [h]; rfl
    exact exec_modifyThenCombine (by rw [h]; decide) ⟨_, _, effect_eq, fun m =>
      ⟨rfl, congrArg (s.a, ·) (compare_eq s.flags s.a (m - 1#8))⟩⟩

/-! ## Immediates, and LAS (R558 to R563, R565) -/

/-- The mnemonics whose one mode is immediate; USBC is with SBC. -/
def immediateMnemonics : List Mnemonic := [.ANC, .ALR, .ARR, .ANE, .LXA, .SBX]

theorem descriptorRow_immediate (hi lo : Nibble) : (descriptorRow hi lo).mnemonic ∈ immediateMnemonics →
    (descriptorRow hi lo).mode = .immediate ∧ (descriptorRow hi lo).base = 2 ∧
      (descriptorRow hi lo).penalty = false := by
  cases hi <;> cases lo <;> decide

theorem afterFetch_of_mode {i : Instr} {mode : Mode} (h : i.operand.mode = mode) (s : State) :
    afterFetch i s = s.advance mode.length := congrArg (fun mode : Mode => s.advance mode.length) h

/-- Without the page-cross penalty and a branch the count is the base (spec/40_execution.md R219). -/
theorem cyclesAfter_of_base {i : Instr} {s : State} (no_penalty : (descriptor i.opcode).penalty = false)
    (no_branch : branchTaken i.mnemonic s.flags = false) :
    cyclesAfter i s = s.cycles + BitVec.ofNat 64 (descriptor i.opcode).base := by
  simp only [cyclesAfter, instrCycles, no_penalty, no_branch, Bool.false_and, Bool.false_eq_true, if_false, add_zero]

/-- These instructions are their function of the operand byte and the state past it, and take 2 cycles. -/
theorem exec_immediate {i : Instr} {mn : Mnemonic} {f : Byte → State → State} (hmn : mn ∈ immediateMnemonics)
    (h : i.mnemonic = mn) (heffect : effectFor mn = readClass f) (s : State) :
    ∃ m, OperandByte i s m ∧
      let t := f m (s.advance 2)
      exec i s = .next { t with iPoll := t.flags.i, cycles := s.cycles + 2#64 } := by
  have is_read : ∀ mn ∈ immediateMnemonics, mn ∈ readMnemonics := by decide
  have no_branch : ∀ mn ∈ immediateMnemonics, branchTaken mn s.flags = false := by
    intro mn hmn
    fin_cases hmn <;> rfl
  obtain ⟨mnemonic_eq, mode_eq⟩ := descriptor_opcode i
  obtain ⟨immediate, base, no_penalty⟩ := descriptorRow_immediate _ _ (mnemonic_eq.trans h ▸ hmn)
  have cycles_eq := cyclesAfter_of_base no_penalty (h ▸ no_branch mn hmn)
  have fetched : afterFetch i s = s.advance 2 := afterFetch_of_mode (mode_eq.symm.trans immediate) s
  obtain ⟨m, operand_byte, completes⟩ := exec_read (h ▸ is_read mn hmn) (h ▸ congrFun heffect i.operand) s
  rw [fetched, afterEffect, cycles_eq, descriptor, base] at completes
  exact ⟨m, operand_byte, completes⟩

/-- Settles O56: each is of the read class; the byte of ALR has a clear top bit, and SBX sets the flags of a compare. -/
theorem andThenCopyShiftOrSubtractOpcodes : Obligations.AndThenCopyShiftOrSubtractOpcodes := by
  refine ⟨?ancForms, ?alrForms, ?lasForms, ?sbxForms, fun i s h => ?anc, fun v s => ?alr, fun addr s => ?las,
    fun v s => ?sbx⟩
  case ancForms | alrForms | lasForms | sbxForms =>
    rw [formsOf_eq_rowFormsOf]
    decide
  case anc => exact exec_immediate (f := andCarry) (by decide) h rfl s
  case alr =>
    have positive : ((s.a &&& v) >>> 1).msb = false := by simp [BitVec.msb_ushiftRight]
    obtain ⟨_, rfl, completes⟩ := exec_immediate (i := .alrImm v) (mn := .ALR) (f := andShift) (by decide) rfl rfl s
    rw [← positive]
    exact completes
  case las =>
    have read : Mnemonic.LAS ∈ readMnemonics := by decide
    exact exec_read (i := .lasAbsY addr) (f := loadAndSp) read rfl s
  case sbx =>
    obtain ⟨_, rfl, completes⟩ := exec_immediate (i := .sbxImm v) (mn := .SBX) (f := subFromAX) (by decide) rfl rfl s
    simp only [subFromAX, compare_eq] at completes
    exact completes

/-- Without the decimal adder or with D = 0 ARR takes its binary form. -/
theorem arrWith_binary {enabled : Bool} {f : Flags} (h : f.d = false ∨ enabled = false) (a m : Byte) :
    arrWith enabled a m f = arrBinary a m f := by
  have off : (f.d && enabled) = false := Bool.and_eq_false_iff.mpr h
  simp only [arrWith, off, Bool.false_eq_true, if_false]

/-- The byte that ARR rotates, as a number. -/
theorem arrRotated_eq_ofNat (a m : Byte) (c : Bool) :
    arrRotated a m c = BitVec.ofNat 8 ((a &&& m).toNat / 2 + 128 * c.toNat) := ror_eq_ofNat (a &&& m) c

/-- The low digit plus 6, without a carry into the high digit. -/
theorem lowDigit_add_six (r : Byte) :
    (r &&& 0xF0#8) ||| ((r + 6#8) &&& 0x0F#8) = BitVec.ofNat 8 (r.toNat / 16 * 16 + (r.toNat + 6) % 16) := by
  revert r
  decide

theorem arrFixLow_eq_ofNat (t r : Byte) :
    arrFixLow t r = if 5 < t.toNat % 16 + t.toNat % 16 % 2 then
      BitVec.ofNat 8 (r.toNat / 16 * 16 + (r.toNat + 6) % 16) else r := by
  rw [arrFixLow, lowDigit_add_six]

/-- Settles O57: the binary form on this hardware, and the decimal form digit by digit. -/
theorem arrRotatesWithItsOwnFlags : Obligations.ArrRotatesWithItsOwnFlags := by
  refine ⟨?forms, fun v s => ⟨_, ?completes, rfl⟩, fun a m f hd => ?decimal, fun a m f hd => ?noDecimal⟩
  case forms =>
    rw [formsOf_eq_rowFormsOf]
    decide
  case completes =>
    have binary (m : Byte) : arrWith Config.decimalEnabled s.a m s.flags = arrBinary s.a m s.flags :=
      arrWith_binary (.inr rfl) s.a m
    obtain ⟨_, rfl, completes⟩ := exec_immediate (i := .arrImm v) (mn := .ARR) (f := andRotate) (by decide) rfl rfl s
    simp only [andRotate, State.advance_a, State.advance_flags, binary, arrBinary, arrRotated_eq_ofNat] at completes
    exact completes
  case decimal =>
    have on : arrWith true a m f = arrDecimal a m f := by simp only [arrWith, hd, Bool.and_self, if_true]
    rw [on]
    refine ⟨?byte, ?flags⟩
    case byte => simp only [arrDecimal, arrRotated_eq_ofNat, arrFixLow_eq_ofNat, decide_eq_true_eq]
    case flags =>
      simp only [arrDecimal, arrRotated_eq_ofNat, BitVec.getLsbD_xor]
      rfl
  case noDecimal => rw [arrWith_binary (.inl hd), arrWith_binary (.inr rfl)]

/-- Settles O58: both are of the read class, and A = 0xFF hides the constant. -/
theorem unstableImmediatesUseTheChipsConstant : Obligations.UnstableImmediatesUseTheChipsConstant := by
  have ones_or (magic : Byte) : 0xFF#8 ||| magic = 0xFF#8 := BitVec.allOnes_or
  have ones_and (v : Byte) : 0xFF#8 &&& v = v := BitVec.allOnes_and
  refine ⟨?aneForms, ?lxaForms, fun v s => ⟨_, ?ane, rfl, fun ha => ?aneOnes⟩,
    fun v s => ⟨_, ?lxa, rfl, fun ha => ?lxaOnes⟩⟩
  case aneForms | lxaForms =>
    rw [formsOf_eq_rowFormsOf]
    decide
  case ane =>
    obtain ⟨_, rfl, completes⟩ := exec_immediate (i := .aneImm v) (mn := .ANE) (f := andUnstable) (by decide) rfl rfl s
    exact completes
  case lxa =>
    obtain ⟨_, rfl, completes⟩ := exec_immediate (i := .lxaImm v) (mn := .LXA) (f := loadUnstable) (by decide) rfl rfl s
    exact completes
  case aneOnes => simp only [ha, ones_or, ones_and]
  case lxaOnes => simp only [ha, ones_or, ones_and, and_self]

/-! ## Unstable stores (R566 to R570) -/

/-- The mnemonics under the common rule R566. -/
def unstableMnemonics : List Mnemonic := [.SHA, .SHX, .SHY, .TAS]

theorem indexed_of_unstable {i : Instr} (h : i.mnemonic ∈ unstableMnemonics) :
    i.mnemonic ∉ [.PLP, .CLI, .SEI] ∧ ∃ ix, i.operand = .memory (.indexed ix) := by
  have operand := storeOperand_of_instr i
  generalize i.mnemonic = mn at h operand ⊢
  fin_cases h <;> exact ⟨by decide, operand⟩

/-- The unstable stores are of one class: TAS sets SP first, and the source is that of the rule. -/
theorem effectFor_unstable {i : Instr} {s : State} {src : Byte}
    (h : (i.mnemonic = .SHA ∧ src = s.a &&& s.x) ∨ (i.mnemonic = .SHX ∧ src = s.x) ∨
      (i.mnemonic = .SHY ∧ src = s.y) ∨ (i.mnemonic = .TAS ∧ src = s.a &&& s.x)) :
    i.mnemonic ∈ unstableMnemonics ∧
      dataAccesses i.mnemonic i.operand (afterFetch i s) = unstableAt i.operand (afterFetch i s) src ∧
      ∃ before source, effectFor i.mnemonic i.operand = unstableEffect before source ∧
        source (before (afterFetch i s)) = src ∧
        ∀ u : State, before u = { u with sp := if i.mnemonic = .TAS then u.a &&& u.x else u.sp } := by
  obtain ⟨h, rfl⟩ | ⟨h, rfl⟩ | ⟨h, rfl⟩ | ⟨h, rfl⟩ := h <;> rw [h]
  · exact ⟨by decide, rfl, nothingFirst, andOfAX, rfl, rfl, fun _ => rfl⟩
  · exact ⟨by decide, rfl, nothingFirst, State.x, rfl, rfl, fun _ => rfl⟩
  · exact ⟨by decide, rfl, nothingFirst, State.y, rfl, rfl, fun _ => rfl⟩
  · exact ⟨by decide, rfl, spFromAX, State.sp, rfl, rfl, fun _ => rfl⟩

theorem unstableAt_of_indexed {o : Operand} {ix : Indexed} (h : o = .memory (.indexed ix)) (s : State) (src : Byte) :
    unstableAt o s src = [.write (unstableAddr src (resolve o s)) (unstableValue src (resolve o s))] := by
  rw [h]
  rfl

/-- An indexed mode has an effective address and the high byte of its base. -/
theorem resolve_indexed (ix : Indexed) (s : State) : ∃ ea high,
    resolve (.memory (.indexed ix)) s = ⟨some ea, (resolve (.memory (.indexed ix)) s).crossed, some high⟩ := by
  cases ix <;> exact ⟨_, _, rfl⟩

/-- The common rule's byte and address, from the Addressing Mode Result (R566). -/
theorem unstable_of_resolved {r : Resolved} {ea : Addr} {high : Byte} (h : r = ⟨some ea, r.crossed, some high⟩)
    (src : Byte) :
    let v := src &&& (high + 1#8)
    unstableValue src r = v ∧ unstableAddr src r = if r.crossed then v ++ lowByte ea else ea := by
  rw [h]
  exact ⟨rfl, rfl⟩

/-- Settles O59: one write of the common rule's byte at its address, after what TAS does to SP. -/
theorem unstableStoresFollowTheCommonRule : Obligations.UnstableStoresFollowTheCommonRule := by
  refine ⟨?sha, ?shx, ?shy, ?tas, fun i s src h => ?completes⟩
  case sha | shx | shy | tas =>
    rw [formsOf_eq_rowFormsOf]
    decide
  case completes =>
    obtain ⟨unstable, accesses_eq, before, source, effect_eq, source_eq, before_eq⟩ := effectFor_unstable h
    obtain ⟨not_delaying, ix, indexed⟩ := indexed_of_unstable unstable
    obtain ⟨ea, high, resolved⟩ := indexed ▸ resolve_indexed ix (afterFetch i s)
    obtain ⟨value_eq, addr_eq⟩ := unstable_of_resolved resolved src
    have accesses : dataAccesses i.mnemonic i.operand (afterFetch i s) = _ :=
      accesses_eq.trans (unstableAt_of_indexed indexed (afterFetch i s) src)
    have completes := exec_eq_afterEffect not_delaying s
    rw [effectOf, effect_eq, unstableEffect_default, source_eq, before_eq, value_eq, addr_eq] at completes
    rw [value_eq, addr_eq] at accesses
    exact ⟨ea, high, _, resolved, completes, State.write_storesOnly (afterFetch i s) _ _, accesses, rfl⟩

/-! ## JAM (R573) -/

/-- JAM has implied forms only. -/
theorem descriptorRow_jam (hi lo : Nibble) : (descriptorRow hi lo).mnemonic = .JAM →
    (descriptorRow hi lo).mode = .implied ∧ (descriptorRow hi lo).base = 2 ∧
      (descriptorRow hi lo).penalty = false := by
  cases hi <;> cases lo <;> decide

/-- The state after a JAM. -/
def State.afterJam (s : State) : State :=
  { s with run := .jammed, pc := s.pc + 1#16, iPoll := s.flags.i, cycles := s.cycles + 2#64 }

theorem exec_jam {i : Instr} (h : i.mnemonic = .JAM) (s : State) : exec i s = .next s.afterJam := by
  obtain ⟨mnemonic_eq, mode_eq⟩ := descriptor_opcode i
  obtain ⟨implied, base, no_penalty⟩ := descriptorRow_jam _ _ (mnemonic_eq.trans h)
  have cycles_eq := cyclesAfter_of_base (s := s) no_penalty (by rw [h]; rfl)
  have fetched : afterFetch i s = s.advance 1 := afterFetch_of_mode (mode_eq.symm.trans implied) s
  rw [exec_register (f := haltCore) (by rw [h]; decide) (by rw [h]; rfl), fetched, afterEffect, cycles_eq, descriptor,
    base]
  rfl

/-- Settles O60: the effect is the halt, and what follows is that of any jammed state. -/
theorem jamHaltsTheCore : Obligations.JamHaltsTheCore := by
  refine ⟨?forms, fun i s h => ⟨s.afterJam, exec_jam h s, rfl, fun hreset => ?halted⟩⟩
  case forms =>
    rw [formsOf_eq_rowFormsOf]
    decide
  case halted =>
    obtain ⟨same, returned, accesses, -, requests, reset⟩ := jammedStepChangesNothing s.afterJam hreset rfl
    exact ⟨same, returned, accesses, requests, reset⟩

end Sys2Proof.Machine
end

section
/-! Interrupt entries, masked requests and the return from an interrupt (spec/60_exceptions.md R600 to R608), the
driver's reset and requests (spec/70_reset_and_hazards.md R701 to R703), and that every step after reset completes, on
any bus. -/

namespace Sys2Proof.Machine

/-! ## The entries (R604, R605) -/

theorem step_nmi {s : State} (h : stepKind s = .nmi) : step s = .next (serviceNmi s) := by
  simp only [step, h]

theorem step_irq {s : State} (h : stepKind s = .irq) : step s = .next (serviceIrq s) := by
  simp only [step, h]

/-- The NMI service is the entry sequence from the state without the request. -/
theorem serviceNmi_entered (s : State) : Entered false 0xFFFA#16 s.pc s (serviceNmi s) := by
  rw [serviceNmi_eq]
  exact interruptEntry_entered false (by decide) (by decide) { s with nmiPending := false } _

/-- The IRQ service is the entry sequence from the state without the request. -/
theorem serviceIrq_entered (s : State) : Entered false 0xFFFE#16 s.pc s (serviceIrq s) := by
  rw [serviceIrq_eq]
  exact interruptEntry_entered false (by decide) (by decide) { s with irqPending := false } _

/-- BRK is the entry sequence with the address past its signature byte (R601, spec/45_stack_flag_system.md R462). -/
theorem exec_brk_entered {s e : State} (h : exec .brk s = .next e) : Entered true 0xFFFE#16 (s.pc + 2#16) s e := by
  obtain rfl := Host.Outcome.next.inj ((exec_brk s).symm.trans h)
  exact interruptEntry_entered true (by decide) (by decide) { s with pc := s.pc + 2#16 } _

/-- Settles O5: the pending latches fix the kind of the step, each service and BRK are the entry sequence, and the
pushed byte and the driver's status byte are both `PackP`. -/
theorem pendingInterruptIsEntered : Obligations.PendingInterruptIsEntered := by
  refine ⟨fun s hreset hrun => ⟨fun hnmi => ?nmi, fun hnmi hirq hpoll => ?irq, ?brk⟩, Flags.getLsbD_pack,
    fun s => Flags.getLsbD_pack s.flags s.flags.b⟩
  case nmi =>
    exact ⟨_, step_nmi (stepKind_nmi s hreset hrun hnmi), serviceNmi_entered s, serviceNmi_nmiPending s,
      serviceNmi_irqPending s, serviceNmi_cycles s⟩
  case irq =>
    exact ⟨_, step_irq (stepKind_irq s hreset hrun hnmi hirq hpoll), serviceIrq_entered s,
      (serviceIrq_nmiPending s).trans hnmi, serviceIrq_irqPending s, serviceIrq_cycles s⟩
  case brk => exact ⟨_, exec_brk s, exec_brk_entered (exec_brk s), rfl⟩

/-! ## A masked request (R603) -/

/-- Settles O6: the step is an instruction's, and no instruction writes the latches. -/
theorem maskedIrqStaysPending : Obligations.MaskedIrqStaysPending := by
  intro s hreset hrun hnmi hirq hpoll
  have completes := exec_eq (fetchInstr s) s
  obtain ⟨-, irq_kept, -⟩ := instructionsKeepLatchesAndOnlyJamHalts _ _ _ completes
  have step_eq := step_instruction (stepKind_instruction s hreset hrun hnmi (.inr hpoll))
  exact ⟨_, step_eq.trans completes, completes, irq_kept.trans hirq⟩

/-! ## Every step after reset completes, on any bus (R600, spec/20_memory.md R101)

A device's transaction updates the bus's part of the state alone, so no operation of a step writes `resetDone`. -/

section Operations

variable (bus : Bus) (s : State)

theorem State.readRunOn_resetDone (a : Addr) (n : Nat) : (s.readRunOn bus a n).2.resetDone = s.resetDone := by
  induction n generalizing s a with
  | zero => rfl
  | succ n ih => exact ih (s.readOn bus a).2 (a + 1#16)

theorem fetchOn_resetDone : (fetchOn bus s).2.resetDone = s.resetDone :=
  State.readRunOn_resetDone bus (s.readOn bus s.pc).2 _ _

theorem resolveOn_resetDone (o : Operand) : (resolveOn bus o s).2.resetDone = s.resetDone := by
  cases o with
  | memory m =>
    cases m with
    | indexed ix => cases ix <;> rfl
    | _ => rfl
  | _ => rfl

theorem State.pushOn_resetDone (v : Byte) : (s.pushOn bus v).resetDone = s.resetDone := rfl

theorem State.push16On_resetDone (a : Addr) : (s.push16On bus a).resetDone = s.resetDone := rfl

theorem State.readPairOn_resetDone (p q : Addr) : (s.readPairOn bus p q).2.resetDone = s.resetDone := rfl

theorem interruptEntryOn_resetDone (breakBit : Bool) (vector : Addr) :
    (interruptEntryOn bus breakBit vector s).resetDone = s.resetDone :=
  calc (interruptEntryOn bus breakBit vector s).resetDone
    _ = ((s.push16On bus s.pc).pushOn bus (s.flags.pack breakBit)).resetDone :=
      State.readPairOn_resetDone bus _ vector (vector + 1#16)
    _ = (s.push16On bus s.pc).resetDone := State.pushOn_resetDone bus _ _
    _ = s.resetDone := State.push16On_resetDone bus s s.pc

theorem serviceNmiOn_resetDone : (serviceNmiOn bus s).resetDone = s.resetDone :=
  interruptEntryOn_resetDone bus { s with nmiPending := false } false nmiVector

theorem serviceIrqOn_resetDone : (serviceIrqOn bus s).resetDone = s.resetDone :=
  interruptEntryOn_resetDone bus { s with irqPending := false } false irqVector

end Operations

/-- The effect keeps `resetDone`, on every bus. -/
def Effect.KeepsReset (effect : Effect) : Prop :=
  ∀ (bus : Bus) (r : Resolved) (s : State), (effect bus r s).1.resetDone = s.resetDone

theorem readClass_keepsReset {f : Byte → State → State} (o : Operand)
    (hf : ∀ m s, (f m s).resetDone = s.resetDone) : (readClass f o).KeepsReset := by
  intro bus r s
  cases o with
  | immediate v => exact hf v s
  | memory m => exact hf _ _
  | _ => rfl

theorem shiftClass_keepsReset (compute : Byte → Flags → Byte × Flags) (o : Operand) :
    (shiftClass compute o).KeepsReset := by
  intro bus r s
  cases o <;> rfl

theorem branchEffect_keepsReset (cond : Flags → Bool) : (branchEffect cond).KeepsReset := by
  intro bus r s
  rw [branchEffect]
  split <;> rfl

theorem effectFor_keepsReset (mn : Mnemonic) (o : Operand) : (effectFor mn o).KeepsReset := by
  cases mn
  case BPL | BMI | BVC | BVS | BCC | BCS | BNE | BEQ => exact branchEffect_keepsReset _
  case LDA | LDX | LDY | ADC | SBC | USBC | AND | ORA | EOR | BIT | CMP | CPX | CPY | LAX | LAS | ANC | ALR | ARR
      | ANE | LXA | SBX | NOP =>
    exact readClass_keepsReset o fun _ _ => rfl
  case ASL | LSR | ROL | ROR => exact shiftClass_keepsReset _ o
  case BRK => exact fun bus _ s => interruptEntryOn_resetDone bus (s.advance 1) true irqVector
  all_goals exact fun _ _ _ => rfl

theorem execOn_resetDone (bus : Bus) (s : State) (i : Instr) : (execOn bus i s).resetDone = s.resetDone :=
  (effectFor_keepsReset i.mnemonic i.operand bus _ _).trans (resolveOn_resetDone bus (s.advance i.length) i.operand)

/-- The refused steps are those before the first reset (spec/70_reset_and_hazards.md R703). -/
theorem stepKind_beforeReset_iff (s : State) : stepKind s = .beforeReset ↔ s.resetDone = false := by
  unfold stepKind
  cases s.resetDone
  · exact iff_of_true rfl rfl
  · simp only [Bool.not_true, Bool.false_eq_true, if_false, Bool.true_eq_false, iff_false]
    split_ifs <;> exact id

/-- A step on any bus, by the kinds of a step. -/
theorem stepOn_completes {s : State} (hreset : s.resetDone = true) (bus : Bus) :
    ∃ t, stepOn bus s = .next t ∧ t.resetDone = true := by
  unfold stepOn
  cases hk : stepKind s with
  | beforeReset =>
    have not_reset := (stepKind_beforeReset_iff s).mp hk
    exact Bool.noConfusion (hreset.symm.trans not_reset)
  | jammed => exact ⟨_, rfl, hreset⟩
  | nmi => exact ⟨_, rfl, (serviceNmiOn_resetDone bus s).trans hreset⟩
  | irq => exact ⟨_, rfl, (serviceIrqOn_resetDone bus s).trans hreset⟩
  | instruction => exact ⟨_, rfl, (execOn_resetDone bus _ _).trans ((fetchOn_resetDone bus s).trans hreset)⟩

/-- Settles O15: the step on any bus completes, and the default machine is the one on the default bus. -/
theorem everyStepAfterResetCompletes : Obligations.EveryStepAfterResetCompletes := by
  intro s hreset
  refine ⟨?default, stepOn_completes hreset⟩
  case default =>
    rw [step_eq_stepOn]
    exact stepOn_completes hreset Config.bus

/-! ## The return (R608, spec/45_stack_flag_system.md R463) -/

theorem exec_rti (s : State) : exec .rti s = .next { s with
    sp := s.sp + 3#8
    flags := Flags.unpack (s.read (stackAddr (s.sp + 1#8)))
    pc := word16 (s.read (stackAddr (s.sp + 2#8))) (s.read (stackAddr (s.sp + 3#8)))
    iPoll := (Flags.unpack (s.read (stackAddr (s.sp + 1#8)))).i
    cycles := s.cycles + 6#64 } :=
  exec_of_effect (i := .rti) (by decide) (returnFromInterruptOn_eq (afterFetch .rti s))

/-- Each of the three ways to enter is an entry sequence. -/
theorem entered_of_entry {s e : State} {ret : Addr}
    (h : (step s = .next e ∧ (stepKind s = .nmi ∨ stepKind s = .irq) ∧ ret = s.pc) ∨
      (exec .brk s = .next e ∧ ret = s.pc + 2#16)) :
    ∃ breakBit vector, Entered breakBit vector ret s e := by
  obtain ⟨hstep, hk | hk, rfl⟩ | ⟨hbrk, rfl⟩ := h
  · obtain rfl := Host.Outcome.next.inj ((step_nmi hk).symm.trans hstep)
    exact ⟨_, _, serviceNmi_entered s⟩
  · obtain rfl := Host.Outcome.next.inj ((step_irq hk).symm.trans hstep)
    exact ⟨_, _, serviceIrq_entered s⟩
  · exact ⟨_, _, exec_brk_entered hbrk⟩

/-- RTI from a state with SP and the three pushed bytes as the entry left them. The stored B is 0, so `UnpackP` gives
back every flag of the pushed `PackP` (spec/10_state.md R64). -/
theorem exec_rti_of_entered {breakBit : Bool} {vector ret : Addr} {s e h : State}
    (entered : Entered breakBit vector ret s e) (hb : s.flags.b = false) (hsp : h.sp = e.sp)
    (kept : ∀ k : Byte, k = 1#8 ∨ k = 2#8 ∨ k = 3#8 → h.read (stackAddr (e.sp + k)) = e.read (stackAddr (e.sp + k))) :
    exec .rti h = .next { h with
      sp := s.sp, flags := s.flags, pc := ret, iPoll := s.flags.i, cycles := h.cycles + 6#64 } := by
  obtain ⟨high, low, status, -, e_eq⟩ := entered
  have e_sp : e.sp = s.sp - 3#8 := congrArg State.sp e_eq
  have status_slot : e.sp + 1#8 = s.sp - 2#8 := by
    rw [e_sp]
    generalize s.sp = sp
    bv_omega
  have low_slot : e.sp + 2#8 = s.sp - 1#8 := by
    rw [e_sp]
    generalize s.sp = sp
    bv_omega
  have high_slot : e.sp + 3#8 = s.sp := by rw [e_sp, BitVec.sub_add_cancel]
  have unpacked : Flags.unpack (s.flags.pack breakBit) = s.flags := by rw [Flags.unpack_pack, ← hb]
  rw [exec_rti, hsp, kept _ (.inl rfl), kept _ (.inr (.inl rfl)), kept _ (.inr (.inr rfl)), status_slot, low_slot,
    high_slot, status, low, high, unpacked, word16_lowByte_highByte]

/-- Settles O52: RTI pulls the three slots of the entry's pushes, and writes nothing but what it restores. -/
theorem entryThenReturnRestores : Obligations.EntryThenReturnRestores := by
  intro s e h ret hb hentry hsp kept
  obtain ⟨breakBit, vector, entered⟩ := entered_of_entry hentry
  exact ⟨_, exec_rti_of_entered entered hb hsp kept, rfl, rfl, rfl, rfl, rfl, rfl, rfl, rfl, fun _ => rfl⟩

/-! ## Requests, reset and power-on (R602, spec/70_reset_and_hazards.md R701, R703) -/

/-- Settles O2: each kind is one update of its own latch, by definition. -/
theorem requestSetsOnlyItsLatch : Obligations.RequestSetsOnlyItsLatch := fun _ => ⟨rfl, rfl⟩

/-- The reset on the recording bus: what it leaves on the default bus, and the vector's two reads. -/
theorem Driver.resetOn_recorder (s : State) :
    Driver.resetOn recorder s = (Driver.reset s).noted resetAccesses := by
  rw [Driver.resetOn, State.read16On_recorder]
  rfl

/-- Settles O1: the fields of `Driver.reset_eq`, and the reads of `Driver.resetOn_recorder`. -/
theorem resetCallLeavesTheSpecsValues : Obligations.ResetCallLeavesTheSpecsValues := by
  intro s
  have reads := Driver.resetOn_recorder s
  rw [Driver.reset_eq] at reads ⊢
  exact ⟨s.read16_eq resetVector, rfl, rfl, rfl, rfl, rfl, rfl, rfl, rfl, rfl, rfl, rfl, rfl, rfl, rfl, reads⟩

theorem step_refused_before_reset {s : State} (h : s.resetDone = false) : step s = .refused .stepBeforeReset := by
  simp only [step, (stepKind_beforeReset_iff s).mpr h]

/-- A reset clears the latches, so it leaves the same with and without a request. -/
theorem Driver.reset_requestInterrupt (kind : InterruptKind) (s : State) :
    Driver.reset (Driver.requestInterrupt kind s) = Driver.reset s := by
  cases kind <;> rfl

/-- Settles O3: power-on leaves `resetDone` at 0 and a request keeps it, so both steps are refused. -/
theorem stepBeforeTheFirstResetIsRefused : Obligations.StepBeforeTheFirstResetIsRefused := by
  intro p s
  refine ⟨rfl, rfl, rfl, rfl, rfl, rfl, rfl, step_refused_before_reset rfl, fun kind =>
    ⟨?refused, Driver.reset_requestInterrupt kind s⟩⟩
  case refused =>
    obtain ⟨reset_kept, -⟩ := requestInterrupt_keeps kind s
    exact step_refused_before_reset (reset_kept.trans rfl)

end Sys2Proof.Machine
end
